-- ==== Sys2Proof/Word.lean ====
section
/-! DEFINITION. The widths of 00_scope.md R8: 32-bit counter readings, timestamps and thresholds, 8-bit encoder inputs and wire bytes. -/

namespace Sys2Proof

/-- `COUNTER_W` and `THRESH_W` of R8: a counter reading, a timestamp, a threshold. -/
abbrev Word := BitVec 32

/-- A byte handed to the sink, and the 8-bit inputs of the encoder (`CH_IN_W`, `D7_IN_W` of R8). -/
abbrev Byte := BitVec 8

/-- The 16-bit bend input (`D14_IN_W` of R8). -/
abbrev Half := BitVec 16

/-- `U32_MAX` of R8, the document's `max_value`. -/
def u32Max : Nat := 0xFFFFFFFF

end Sys2Proof
end

