-- ==== Sys2Proof/Syntax.lean ====
section
/-! DEFINITION. The operations of the block, one constructor per row of spec/opcode_table.json, and what their operands are made of. -/

namespace Sys2Proof

/-- 20_memory.md R52: what the external raw-sample read yields for one poll; `ok true` is "input asserted". -/
inductive Sample where
  | ok (raw : Bool)
  | fault
  deriving DecidableEq, Repr

/-- 10_state.md R22: the four values of `fsm`. -/
inductive DebounceState where
  | off
  | debouncingOn
  | debouncingOff
  | on
  deriving DecidableEq, Repr

/-- The operations (00_scope.md R3). Encoder operands are the unsigned ports of R8; `now`, `t`, `t0` are
counter readings. -/
inductive Instr where
  /-- R100. -/
  | tick
  /-- R210. -/
  | reset
  /-- R81. -/
  | nop
  /-- R101. -/
  | read
  /-- R120. -/
  | poll (sample : Sample) (now : Word)
  /-- R152. -/
  | deactivate (c p v : Byte)
  /-- R151. -/
  | activate (c p v : Byte)
  /-- R153. -/
  | paramChange (c p v : Byte)
  /-- R154. -/
  | pressure (c v : Byte)
  /-- R155. -/
  | bend (c : Byte) (v : Half)
  /-- R102, the helper function. -/
  | elapsed (t t0 : Word)
  /-- R180. DESIGN CHOICE (log 13): `ticksBeforePoll` ticks fall between the iteration's `READ` and its `POLL`,
  `ticksAfterPoll` between its `POLL` and what follows; both are free, as R61 and R183 leave them. -/
  | dispatchIter (sample : Sample) (ticksBeforePoll ticksAfterPoll : Nat)
  deriving DecidableEq, Repr

/-- The wires of the `request` port (20_memory.md R51, 30_encoding.md R81) with the `sample` port's answer
beside them. Every operation's arguments arrive on the wires of their names; an 8-bit `v` is the low byte. -/
structure Request where
  opSel : BitVec 4
  now : Word
  c : Byte
  p : Byte
  v : Half
  sample : Sample
  deriving DecidableEq, Repr

/-- What one agent outside the block does next (00_scope.md R13). -/
inductive Event where
  /-- The tick source: the one-bit event on the `tick` port. -/
  | tick
  /-- The external reset: the one-bit event on the `rst` port. -/
  | rst
  /-- The loop domain: one request on the `request` port. -/
  | request (r : Request)
  /-- The Dispatcher runs one iteration (R180); no port of the block carries this event. -/
  | iterate (sample : Sample) (ticksBeforePoll ticksAfterPoll : Nat)
  deriving DecidableEq, Repr

/-- Why a request is no operation. -/
inductive RequestError where
  /-- R82: the reserved operation-select codes. -/
  | reservedOpSel (code : BitVec 4)
  deriving DecidableEq, Repr

/-- Why bytes are no message of the encoder. -/
inductive MessageError where
  /-- A message of no bytes (R70). -/
  | emptyMessage
  /-- A first byte below 0x80 (R71). -/
  | notAStatusByte (b : Byte)
  /-- A status byte with high nibble A, C or F (R83). -/
  | reservedStatus (b : Byte)
  /-- A message whose number of data bytes is not that of its status byte (R84). -/
  | wrongLength (b : Byte)
  /-- A data byte of 0x80 or above (R72). -/
  | dataByteSet (b : Byte)
  deriving DecidableEq, Repr

end Sys2Proof
end

