-- ==== Sys2Proof/WellFormed.lean ====
section
/-! DEFINITION. The checks: which operations can be requested, and which configurations the constructor accepts. -/

namespace Sys2Proof

/-- Whether something outside the block can request the operation. The helper `ELAPSED` is "never requested on its
own" (00_scope.md R3); every operand value of the others is accepted (41_debouncer.md R120, 42_protocol_encoder.md R150). -/
def Instr.wellFormed : Instr → Bool
  | .tick => true
  | .reset => true
  | .nop => true
  | .read => true
  | .poll _ _ => true
  | .deactivate _ _ _ => true
  | .activate _ _ _ => true
  | .paramChange _ _ _ => true
  | .pressure _ _ => true
  | .bend _ _ => true
  | .elapsed _ _ => false
  | .dispatchIter _ _ _ => true

/-- 10_state.md R29, 70_reset_and_hazards.md R214: `TIMEOUT_MS >= CONFIRM_MS`. -/
def thresholdsOrdered (confirm timeout : Word) : Bool := decide (confirm ≤ timeout)

/-- 43_dispatcher_boundary.md R181: `DISP_VALUE_ON` is 1 to 127. -/
def dispValueLegal (v : Byte) : Bool := decide (1 ≤ v.toNat ∧ v.toNat ≤ 127)

end Sys2Proof
end

