-- ==== Sys2Proof/Decode.lean ====
section
/-! DEFINITION. From bits to operations and back: the request port (30_encoding.md R81, R82), the wire messages
(R70 to R84) read as the operation that emits them, the codes of `fsm` (R85), and the table's words. -/

namespace Sys2Proof

/-- R81, R82: the operation-select codes and the argument wires each reads. Wires an operation does not name are
ignored (log 16). -/
def decodeRequest (r : Request) : Except RequestError Instr :=
  match r.opSel.toNat with
  | 0x0 => .ok .nop
  | 0x1 => .ok .read
  | 0x2 => .ok (.poll r.sample r.now)
  | 0x8 => .ok (.deactivate r.c r.p (r.v.setWidth 8))
  | 0x9 => .ok (.activate r.c r.p (r.v.setWidth 8))
  | 0xB => .ok (.paramChange r.c r.p (r.v.setWidth 8))
  | 0xD => .ok (.pressure r.c (r.v.setWidth 8))
  | 0xE => .ok (.bend r.c r.v)
  | _ => .error (.reservedOpSel r.opSel)

/-- The operation an agent's event requests. -/
def decode (e : Event) : Except RequestError Instr :=
  match e with
  | .tick => .ok .tick
  | .rst => .ok .reset
  | .request r => decodeRequest r
  | .iterate sample before after => .ok (.dispatchIter sample before after)

/-- A request with every argument wire zero and the input not asserted. -/
def blankRequest (code : BitVec 4) : Request :=
  { opSel := code, now := 0, c := 0, p := 0, v := 0, sample := .ok false }

/-- The event that requests an operation, written from R81's table; the helper `ELAPSED` has none. -/
def encode (i : Instr) : Option Event :=
  match i with
  | .tick => some .tick
  | .reset => some .rst
  | .nop => some (.request (blankRequest 0x0))
  | .read => some (.request (blankRequest 0x1))
  | .poll sample now => some (.request { blankRequest 0x2 with now := now, sample := sample })
  | .deactivate c p v => some (.request { blankRequest 0x8 with c := c, p := p, v := v.setWidth 16 })
  | .activate c p v => some (.request { blankRequest 0x9 with c := c, p := p, v := v.setWidth 16 })
  | .paramChange c p v => some (.request { blankRequest 0xB with c := c, p := p, v := v.setWidth 16 })
  | .pressure c v => some (.request { blankRequest 0xD with c := c, v := v.setWidth 16 })
  | .bend c v => some (.request { blankRequest 0xE with c := c, v := v })
  | .elapsed _ _ => none
  | .dispatchIter sample before after => some (.iterate sample before after)

/-- The high nibble of a byte. -/
def highNibble (b : Byte) : BitVec 4 := b.extractLsb' 4 4

/-- The low nibble of a byte. -/
def lowNibble (b : Byte) : BitVec 4 := b.extractLsb' 0 4

/-- R78 inverted: the channel number 1 to 16 of a status byte. -/
def channelOf (status : Byte) : Byte := (lowNibble status).setWidth 8 + 1

/-- R84: how many data bytes follow a status byte. -/
def dataLength (status : Byte) : Option Nat :=
  match (highNibble status).toNat with
  | 0x8 => some 2
  | 0x9 => some 2
  | 0xB => some 2
  | 0xD => some 1
  | 0xE => some 2
  | _ => none

/-- R79 inverted: `b = (hi << 7) | lo`. -/
def joinBend (lo hi : Byte) : Half := (hi.setWidth 16 <<< 7) ||| lo.setWidth 16

/-- The operation of a status byte and its two data bytes, formats M3 and MB (R70, R80). -/
def messageOfTwo (status d1 d2 : Byte) : Except MessageError Instr :=
  match (highNibble status).toNat with
  | 0x8 => .ok (.deactivate (channelOf status) d1 d2)
  | 0x9 => .ok (.activate (channelOf status) d1 d2)
  | 0xB => .ok (.paramChange (channelOf status) d1 d2)
  | 0xE => .ok (.bend (channelOf status) (joinBend d1 d2))
  | _ => .error (.wrongLength status)

/-- What follows an accepted status byte, by its number of data bytes. -/
def messageOfData (status : Byte) (n : Nat) (data : List Byte) : Except MessageError Instr :=
  match n, data with
  | 1, [d] => if d.msb then .error (.dataByteSet d) else .ok (.pressure (channelOf status) d)
  | 2, [d1, d2] =>
      if d1.msb then .error (.dataByteSet d1)
      else if d2.msb then .error (.dataByteSet d2)
      else messageOfTwo status d1 d2
  | _, _ => .error (.wrongLength status)

/-- 42_protocol_encoder.md R156: the operation and the clamped inputs recovered from a message. This reads the
table's encodings of the encoder rows; the block itself receives no messages (00_scope.md R7). -/
def decodeMessage (bytes : List Byte) : Except MessageError Instr :=
  match bytes with
  | [] => .error .emptyMessage
  | status :: data =>
      if status.msb then
        match dataLength status with
        | none => .error (.reservedStatus status)
        | some n => messageOfData status n data
      else .error (.notAStatusByte status)

/-- The bytes of a table word, first byte most significant (the notes of the encoder rows). -/
def tableBytes (n w : Nat) : List Byte :=
  match n with
  | 0 => []
  | n + 1 => BitVec.ofNat 8 (w >>> (8 * n)) :: tableBytes n w

/-- A table word of one byte: `op_sel` in bits 3 to 0 of the request port, bits 7 to 4 zero. -/
def decodeSelectWord (w : Nat) : Option Instr :=
  if w < 16 then (decodeRequest (blankRequest (BitVec.ofNat 4 w))).toOption else none

/-- The instruction of a table word, none where the decoder refuses it (log 4): rows of up to one byte are `op_sel`
codes, longer rows are the message the operation emits. -/
def decodeTableWord (nbits w : Nat) : Option Instr :=
  if nbits ≤ 8 then decodeSelectWord w else (decodeMessage (tableBytes (nbits / 8) w)).toOption

/-- A reserved `op_sel` (R82), for words that are no instruction. -/
def reservedEvent : Event := .request (blankRequest 0xF)

/-- The event that requests what a table word stands for; a reserved request where it stands for nothing. -/
def tableEvent (nbits w : Nat) : Event :=
  match decodeTableWord nbits w with
  | some i => (encode i).getD reservedEvent
  | none => reservedEvent

/-- 30_encoding.md R85: the two-bit code of `fsm` at an observation port. -/
def DebounceState.code : DebounceState → BitVec 2
  | .off => 0b00
  | .debouncingOn => 0b01
  | .debouncingOff => 0b10
  | .on => 0b11

/-- R85 read backwards; all four codes are legal. -/
def debounceStateOfCode (code : BitVec 2) : DebounceState :=
  match code.toNat with
  | 0 => .off
  | 1 => .debouncingOn
  | 2 => .debouncingOff
  | _ => .on

end Sys2Proof
end

