-- ==== Sys2Proof/Config.lean ====
section
/-! DEFINITION. The parameters of 00_scope.md R8. Those the spec leaves OPEN have no body here: nothing can evaluate them. -/

namespace Sys2Proof

/-- DESIGN CHOICE (log 5): `CONFIRM_MS` of the instance that `State.reset` describes. R8 leaves it OPEN;
R214 bounds it by the timeout, whose default is 20, so its value is one of 0 to 20. -/
opaque Config.confirmIndex : Fin 21

/-- `CONFIRM_MS` (R28) of the instance after reset. -/
def Config.confirmMs : Word := BitVec.ofNat 32 Config.confirmIndex.val

/-- `TIMEOUT_MS` (R29) of the instance after reset: its default (R8). -/
def Config.timeoutMs : Word := 20

/-- `WRAP_ADJ` (R8, R102): 0 in this hardware (90_conflicts.md C1, log 8). -/
def Config.wrapAdj : Nat := 0

/-- DESIGN CHOICE (log 6): `DISP_CHANNEL`, OPEN (R8, R185). -/
opaque Config.dispChannel : Byte

/-- DESIGN CHOICE (log 6): `DISP_PARAM`, OPEN (R8, R185). -/
opaque Config.dispParam : Byte

/-- DESIGN CHOICE (log 6): `DISP_VALUE_ON` is OPEN within 1 to 127 (R181); this is its distance from 1. -/
opaque Config.dispValueIndex : Fin 127

/-- `DISP_VALUE_ON` (R181, R185). -/
def Config.dispValueOn : Byte := BitVec.ofNat 8 (Config.dispValueIndex.val + 1)

end Sys2Proof
end

