-- ==== Sys2Proof/Machine/State.lean ====
section
/-! DEFINITION. The state of the block (10_state.md), of the Dispatcher at its boundary, what is observed of a run, and what the agents do next. -/

namespace Sys2Proof.Machine

/-- No operation stops the machine with a fault. The one fault of the block, `InputReadFault`, is a return value of
`POLL` after which the block goes on (60_exceptions.md R190, R197, R198): `PollResult.fault`, in a next state (log 20). -/
inductive Fault where
  deriving DecidableEq, Repr

/-- Why the model gives no meaning. -/
inductive Refusal where
  /-- Raised by an arm of `exec` that has no meaning yet; none is left. Safe. -/
  | notModelled (mnemonic : String)
  /-- Raised by `step` and `cycle` for a request with a reserved `op_sel` (30_encoding.md R82: "a model should refuse it"). Safe. -/
  | reservedOpSel (code : BitVec 4)
  /-- Raised by `construct` for `TIMEOUT_MS < CONFIRM_MS` (70_reset_and_hazards.md R214). Safe. -/
  | thresholdsOutOfOrder
  deriving DecidableEq, Repr

/-- 20_memory.md R51: the result of a poll. -/
inductive PollResult where
  | done
  | fault
  deriving DecidableEq, Repr

/-- What an operation returned to whoever requested it (00_scope.md R14). -/
inductive Response where
  /-- The value of a `READ`, on `count_out`. -/
  | count (value : Word)
  /-- The result of a `POLL`, on `poll_result`. -/
  | poll (result : PollResult)
  /-- The value of the helper `ELAPSED` (log 17). -/
  | elapsed (value : Word)
  /-- What `DISPATCH_ITER` returned (43_dispatcher_boundary.md R180). -/
  | iteration (result : PollResult)
  deriving DecidableEq, Repr

/-- 20_memory.md R53: the events handed to the byte sink. -/
inductive SinkEvent where
  /-- `W(b)`. -/
  | write (b : Byte)
  /-- `F`. -/
  | flush
  deriving DecidableEq, Repr

/-- The sub-block `debounce_fsm`: the registers of 10_state.md R22 to R27 and the two constants of the instance. -/
structure Button where
  fsm : DebounceState
  state : Bool
  prevState : Bool
  toggle : Bool
  onStart : Word
  offStart : Word
  /-- `CONFIRM_MS` (R28), never written. -/
  confirmMs : Word
  /-- `TIMEOUT_MS` (R29), never written. -/
  timeoutMs : Word
  deriving DecidableEq, Repr

/-- The external Dispatcher as far as its boundary shows it (43_dispatcher_boundary.md R182, R185). -/
structure Dispatcher where
  indicator : Bool
  /-- `DISP_CHANNEL`, never written. -/
  channel : Byte
  /-- `DISP_PARAM`, never written. -/
  param : Byte
  /-- `DISP_VALUE_ON`, never written. -/
  valueOn : Byte
  deriving DecidableEq, Repr

/-- The whole state: seven registers and two constants (10_state.md R20), the Dispatcher's, the two observations of a
run (00_scope.md R14), and the inputs. -/
structure State where
  /-- `ms_count` (R21). -/
  msCount : Word
  button : Button
  dispatcher : Dispatcher
  /-- The sink trace, oldest first (20_memory.md R53). -/
  sinkTrace : List SinkEvent
  /-- The results returned so far, oldest first (log 11). -/
  results : List Response
  /-- The model's own: what the agents do next, in the total order of 20_memory.md R61 (log 1). -/
  inputs : List Event
  deriving DecidableEq, Repr

/-- The registers of a button after reset (10_state.md R35); the thresholds are not reset. -/
def Button.atReset (confirm timeout : Word) : Button :=
  { fsm := .off, state := false, prevState := false, toggle := false, onStart := 0, offStart := 0,
    confirmMs := confirm, timeoutMs := timeout }

/-- The Dispatcher when the block has been reset (R182: the indicator is false). -/
def Dispatcher.atReset (channel param valueOn : Byte) : Dispatcher :=
  { indicator := false, channel := channel, param := param, valueOn := valueOn }

/-- The machine right after reset (10_state.md R35, 70_reset_and_hazards.md R210), waiting for requests. -/
def State.reset : State :=
  { msCount := 0
    button := Button.atReset Config.confirmMs Config.timeoutMs
    dispatcher := Dispatcher.atReset Config.dispChannel Config.dispParam Config.dispValueOn
    sinkTrace := []
    results := []
    inputs := [] }

end Sys2Proof.Machine
end

