-- ==== Sys2Proof/Machine/Flags.lean ====
section
/-! DEFINITION. The status flags and what is derived from them (10_state.md R31), the strict comparison (41_debouncer.md R121), and the output ports read from State. -/

namespace Sys2Proof.Machine

/-- R121: "exceeds" is the strict unsigned comparison (log 9). -/
def exceeds (e threshold : Word) : Bool := decide (threshold < e)

/-- R31: `edge = (state != prev_state)`. -/
def edge (b : Button) : Bool := b.state != b.prevState

/-- R31: `rising = edge and state`. -/
def rising (b : Button) : Bool := edge b && b.state

/-- R31: `falling = edge and not state`. -/
def falling (b : Button) : Bool := edge b && !b.state

/-- R122: `prev_state <- state`. -/
def snapshot (b : Button) : Button := { b with prevState := b.state }

/-- The fault check of R120: what a poll with this sample returns. -/
def resultOfSample (sample : Sample) : PollResult :=
  match sample with
  | .ok _ => .done
  | .fault => .fault

/-- 60_exceptions.md R192: at bit level `Fault` = 1. -/
def pollResultBit (r : PollResult) : BitVec 1 :=
  match r with
  | .done => 0
  | .fault => 1

/-- The value a response puts on `count_out`, if it is a `READ`'s. -/
def countOfResponse (r : Response) : Option Word :=
  match r with
  | .count w => some w
  | .poll _ => none
  | .elapsed _ => none
  | .iteration _ => none

/-- The value a response puts on `poll_result`, if it is a `POLL`'s. -/
def pollOfResponse (r : Response) : Option PollResult :=
  match r with
  | .count _ => none
  | .poll p => some p
  | .elapsed _ => none
  | .iteration _ => none

/-- `count_out` (20_memory.md R51): the result of the latest `READ`; none before the first. -/
def countOut (s : State) : Option Word := s.results.reverse.findSome? countOfResponse

/-- `poll_result` (R51, R192): the result of the latest `POLL`; none before the first. -/
def pollResult (s : State) : Option PollResult := s.results.reverse.findSome? pollOfResponse

end Sys2Proof.Machine
end

