-- ==== Sys2Proof/Machine/Operands.lean ====
section
/-! DEFINITION. Operand assembly: the pure helper functions of 30_encoding.md R71 and R76 to R80 and of 40_time_source.md R102. -/

namespace Sys2Proof.Machine

/-- R76, on all integers: a clamp to 0 to 127, not a mask. -/
def clamp7 (v : Int) : Int := min (max v 0) 127

/-- R77, on all integers: a clamp to 0 to 16383. -/
def clamp14 (v : Int) : Int := min (max v 0) 16383

/-- R78, on all integers: clamp the channel number to 1 to 16, then subtract one. -/
def chan (c : Int) : Int := min (max c 1) 16 - 1

/-- R72: the data byte of a 7-bit-range input. -/
def dataByte (v : Byte) : Byte := BitVec.ofNat 8 (clamp7 v.toNat).toNat

/-- R78: the channel nibble of the unsigned channel input, as a byte. -/
def channelNibble (c : Byte) : Byte := BitVec.ofNat 8 (chan c.toNat).toNat

/-- R71: base code OR channel nibble. -/
def statusByte (base c : Byte) : Byte := base ||| channelNibble c

/-- R77: the clamped 14-bit bend value of the unsigned 16-bit input. -/
def bendValue (v : Half) : BitVec 14 := BitVec.ofNat 14 (clamp14 v.toNat).toNat

/-- R79: the first data byte of a bend, `b & 0x7F`. -/
def bendLow (b : BitVec 14) : Byte := (b &&& 0x7F).setWidth 8

/-- R79: the second data byte of a bend, `(b >> 7) & 0x7F`. -/
def bendHigh (b : BitVec 14) : Byte := ((b >>> 7) &&& 0x7F).setWidth 8

/-- R80. -/
def baseDeactivate : Byte := 0x80

/-- R80. -/
def baseActivate : Byte := 0x90

/-- R80. -/
def baseParamChange : Byte := 0xB0

/-- R80. -/
def basePressure : Byte := 0xD0

/-- R80. -/
def baseBend : Byte := 0xE0

/-- Format M3 of R70: status, parameter, value. -/
def messageM3 (base c p v : Byte) : List Byte := [statusByte base c, dataByte p, dataByte v]

/-- Format M2 of R70: status, value. -/
def messageM2 (base c v : Byte) : List Byte := [statusByte base c, dataByte v]

/-- Format MB of R70: status, low half, high half. -/
def messageMB (base c : Byte) (v : Half) : List Byte :=
  [statusByte base c, bendLow (bendValue v), bendHigh (bendValue v)]

/-- R102 as printed, in exact integers, with `WRAP_ADJ` as an argument (90_conflicts.md C1). -/
def elapsedExact (wrapAdj : Nat) (t t0 : Word) : Nat :=
  if t0.toNat ≤ t.toNat then t.toNat - t0.toNat
  else (u32Max - t0.toNat) + t.toNat + wrapAdj

/-- R102 for a given `WRAP_ADJ`, as a 32-bit value; R103 says nothing is lost. -/
def elapsedWith (wrapAdj : Nat) (t t0 : Word) : Word := BitVec.ofNat 32 (elapsedExact wrapAdj t t0)

/-- `ELAPSED(t, t0)` of this hardware. -/
def elapsed (t t0 : Word) : Word := elapsedWith Config.wrapAdj t t0

end Sys2Proof.Machine
end

