-- ==== Sys2Proof/Machine/Ops.lean ====
section
/-! DEFINITION. The primitives of 00_scope.md R10 as named operations on State: the counter, the sink, the results, the one fault, reset, and the fetch of an agent's event. -/

namespace Sys2Proof.Machine

/-- `ms_count <- w`. -/
def setCount (w : Word) (s : State) : State := { s with msCount := w }

/-- A write of the button's registers. -/
def setButton (b : Button) (s : State) : State := { s with button := b }

/-- `CounterRead()`. -/
def counterRead (s : State) : Word := s.msCount

/-- Returns a result to the requester. -/
def respond (r : Response) (s : State) : State := { s with results := s.results ++ [r] }

/-- `SinkWrite(b)`. -/
def sinkWrite (b : Byte) (s : State) : State := { s with sinkTrace := s.sinkTrace ++ [.write b] }

/-- `SinkFlush()`. -/
def sinkFlush (s : State) : State := { s with sinkTrace := s.sinkTrace ++ [.flush] }

/-- The bytes of a message, one `SinkWrite` each, in order. -/
def sinkWrites (bytes : List Byte) (s : State) : State :=
  match bytes with
  | [] => s
  | b :: rest => sinkWrites rest (sinkWrite b s)

/-- 42_protocol_encoder.md R150, R157: all bytes of a message, then the flush. -/
def sendMessage (bytes : List Byte) (s : State) : State := sinkFlush (sinkWrites bytes s)

/-- The increment of R100, modulo 2^32. -/
def tickOnce (s : State) : State := setCount (s.msCount + 1) s

/-- `TICK*k` of 30_encoding.md R87. -/
def ticks (k : Nat) (s : State) : State :=
  match k with
  | 0 => s
  | k + 1 => ticks k (tickOnce s)

/-- `READ`: the counter's value is returned, nothing else changes (R101). -/
def readCount (s : State) : State := respond (.count (counterRead s)) s

/-- `raise InputReadFault` (R10, 60_exceptions.md R190, R197): the poll returns `Fault` and no register is written.
There is no handler, no saved state and no return operation (R198). -/
def raiseInputReadFault (s : State) : State := respond (.poll .fault) s

/-- The event of 70_reset_and_hazards.md R210: the seven registers at R35's values and an empty trace. The constants
stay. The results and the Dispatcher's indicator start over with the run (log 11, log 12). -/
def resetBlock (s : State) : State :=
  { s with
    msCount := 0
    button := Button.atReset s.button.confirmMs s.button.timeoutMs
    dispatcher := Dispatcher.atReset s.dispatcher.channel s.dispatcher.param s.dispatcher.valueOn
    sinkTrace := []
    results := [] }

/-- The next event of the agents and the state without it; none where nothing is requested. -/
def fetch (s : State) : Option (Event × State) :=
  match s.inputs with
  | [] => none
  | e :: rest => some (e, { s with inputs := rest })

/-- Places an event before everything the agents do later. -/
def pushEvent (e : Event) (s : State) : State := { s with inputs := e :: s.inputs }

/-- The refusal that names why a request is no operation (30_encoding.md R82). -/
def refusalOf (err : RequestError) : Refusal :=
  match err with
  | .reservedOpSel code => .reservedOpSel code

/-- The state of an outcome, if it is a next state. -/
def nextState? (o : Host.Outcome State Fault Refusal) : Option State :=
  match o with
  | .next s => some s
  | .fault _ => none
  | .refused _ => none

/-- The refusal of an outcome, if it is one. -/
def refusal? (o : Host.Outcome State Fault Refusal) : Option Refusal :=
  match o with
  | .next _ => none
  | .fault _ => none
  | .refused r => some r

end Sys2Proof.Machine
end

