-- ==== Sys2Proof/Machine/Debouncer.lean ====
section
/-! DEFINITION. The sub-block `debounce_fsm`: the transitions T1 to T6 and the operation `POLL` (41_debouncer.md). -/

namespace Sys2Proof.Machine

/-- T1 (R124). -/
def beginActivation (now : Word) (b : Button) : Button := { b with fsm := .debouncingOn, onStart := now }

/-- T2 (R126), the confirmed activation. -/
def confirmActivation (b : Button) : Button := { b with fsm := .on, state := true, toggle := !b.toggle }

/-- T3 (R127), the bounce rejected. -/
def rejectActivation (b : Button) : Button := { b with fsm := .off }

/-- T4 (R129). -/
def beginDeactivation (now : Word) (b : Button) : Button := { b with fsm := .debouncingOff, offStart := now }

/-- T5 (R131), the confirmed deactivation. -/
def confirmDeactivation (b : Button) : Button := { b with fsm := .off, state := false }

/-- T6 (R132), the escape hatch. -/
def escapeDeactivation (b : Button) : Button := { b with fsm := .on }

/-- The one arm of R120 that `fsm` selects (R123), after the snapshot. -/
def pollArm (raw : Bool) (now : Word) (b : Button) : Button :=
  match b.fsm with
  | .off => if raw then beginActivation now b else b
  | .debouncingOn =>
      if raw && exceeds (elapsed now b.onStart) b.confirmMs then confirmActivation b
      else if !raw && exceeds (elapsed now b.onStart) b.timeoutMs then rejectActivation b
      else b
  | .on => if raw then b else beginDeactivation now b
  | .debouncingOff =>
      if !raw && exceeds (elapsed now b.offStart) b.confirmMs then confirmDeactivation b
      else if raw && exceeds (elapsed now b.offStart) b.timeoutMs then escapeDeactivation b
      else b

/-- A poll whose sample could be read: snapshot (R122), then one arm. -/
def pollButton (raw : Bool) (now : Word) (b : Button) : Button := pollArm raw now (snapshot b)

/-- R120: the fault check first (R134), then the poll; the result is returned. -/
def poll (sample : Sample) (now : Word) (s : State) : State :=
  match sample with
  | .fault => raiseInputReadFault s
  | .ok raw => respond (.poll .done) (setButton (pollButton raw now s.button) s)

/-- R120. -/
def execPoll (sample : Sample) (now : Word) (s : State) : Host.Outcome State Fault Refusal :=
  .next (poll sample now s)

/-- `POLL_NOW(sample)` of 30_encoding.md R87: a `READ`, some ticks, and the `POLL` with the value read. -/
def pollNow (sample : Sample) (ticksBetween : Nat) (s : State) : State :=
  poll sample (counterRead s) (ticks ticksBetween (readCount s))

end Sys2Proof.Machine
end

