-- ==== Sys2Proof/Machine/Boundary.lean ====
section
/-! DEFINITION. The Dispatcher's iteration at the block's boundary (43_dispatcher_boundary.md). -/

namespace Sys2Proof.Machine

/-- `indicator <- state` (R180, R182). -/
def mirrorIndicator (s : State) : State :=
  { s with dispatcher := { s.dispatcher with indicator := s.button.state } }

/-- R181: the value of the message for an edge, `DISP_VALUE_ON` on a rising edge and 0 on a falling one (log 7). -/
def edgeValue (s : State) : Byte := if s.button.state then s.dispatcher.valueOn else 0

/-- R180: on an edge, one `ACTIVATE` and the indicator; otherwise nothing. -/
def emitEdge (s : State) : State :=
  if edge s.button then
    mirrorIndicator (sendMessage (messageM3 baseActivate s.dispatcher.channel s.dispatcher.param (edgeValue s)) s)
  else s

/-- What follows the poll of an iteration: a faulted one is passed on and emits nothing (R184). -/
def finishIteration (r : PollResult) (s : State) : State :=
  match r with
  | .fault => respond (.iteration .fault) s
  | .done => respond (.iteration .done) (emitEdge s)

/-- R180. The ticks that fall in the two gaps are operands (log 13, log 14). -/
def dispatchIter (sample : Sample) (ticksBeforePoll ticksAfterPoll : Nat) (s : State) : State :=
  finishIteration (resultOfSample sample) (ticks ticksAfterPoll (pollNow sample ticksBeforePoll s))

/-- R180. -/
def execDispatchIter (sample : Sample) (ticksBeforePoll ticksAfterPoll : Nat) (s : State) :
    Host.Outcome State Fault Refusal :=
  .next (dispatchIter sample ticksBeforePoll ticksAfterPoll s)

end Sys2Proof.Machine
end

