-- ==== Sys2Proof/Machine/Control.lean ====
section
/-! DEFINITION. `NOP` (30_encoding.md R81), `RESET` and construction (70_reset_and_hazards.md R210, R213, R214). -/

namespace Sys2Proof.Machine

/-- R81: "no operation, nothing read, nothing written". -/
def execNop (s : State) : Host.Outcome State Fault Refusal := .next s

/-- R210. -/
def execReset (s : State) : Host.Outcome State Fault Refusal := .next (resetBlock s)

/-- R213, R214: the instance with these thresholds (the timeout 20 unless given), reset; a configuration out of order is
refused. -/
def construct (confirm : Word) (timeout : Word := Config.timeoutMs) : Host.Outcome State Fault Refusal :=
  if thresholdsOrdered confirm timeout then
    .next { State.reset with button := Button.atReset confirm timeout }
  else .refused .thresholdsOutOfOrder

end Sys2Proof.Machine
end

