-- ==== Sys2Proof/Machine/Encoder.lean ====
section
/-! DEFINITION. The sub-block `midi_encoder`: its five operations (42_protocol_encoder.md). -/

namespace Sys2Proof.Machine

/-- R152. -/
def execDeactivate (c p v : Byte) (s : State) : Host.Outcome State Fault Refusal :=
  .next (sendMessage (messageM3 baseDeactivate c p v) s)

/-- R151. -/
def execActivate (c p v : Byte) (s : State) : Host.Outcome State Fault Refusal :=
  .next (sendMessage (messageM3 baseActivate c p v) s)

/-- R153. -/
def execParamChange (c p v : Byte) (s : State) : Host.Outcome State Fault Refusal :=
  .next (sendMessage (messageM3 baseParamChange c p v) s)

/-- R154. -/
def execPressure (c v : Byte) (s : State) : Host.Outcome State Fault Refusal :=
  .next (sendMessage (messageM2 basePressure c v) s)

/-- R155. -/
def execBend (c : Byte) (v : Half) (s : State) : Host.Outcome State Fault Refusal :=
  .next (sendMessage (messageMB baseBend c v) s)

/-- The bytes an encoder operation hands over (30_encoding.md R70, R80); every other operation sends no message of
its own. -/
def messageOf (i : Instr) : List Byte :=
  match i with
  | .deactivate c p v => messageM3 baseDeactivate c p v
  | .activate c p v => messageM3 baseActivate c p v
  | .paramChange c p v => messageM3 baseParamChange c p v
  | .pressure c v => messageM2 basePressure c v
  | .bend c v => messageMB baseBend c v
  | .tick => []
  | .reset => []
  | .nop => []
  | .read => []
  | .poll _ _ => []
  | .elapsed _ _ => []
  | .dispatchIter _ _ _ => []

end Sys2Proof.Machine
end

