-- ==== Sys2Proof/Machine/TimeSource.lean ====
section
/-! DEFINITION. The sub-block `millisecond_counter`: `TICK`, `READ` and the helper `ELAPSED` (40_time_source.md). -/

namespace Sys2Proof.Machine

/-- R100. -/
def execTick (s : State) : Host.Outcome State Fault Refusal := .next (tickOnce s)

/-- R101. -/
def execRead (s : State) : Host.Outcome State Fault Refusal := .next (readCount s)

/-- R102: a pure function; its value is returned and no register is read or written (log 17). -/
def execElapsed (t t0 : Word) (s : State) : Host.Outcome State Fault Refusal :=
  .next (respond (.elapsed (elapsed t t0)) s)

end Sys2Proof.Machine
end

