-- ==== Sys2Proof/Machine/Dispatch.lean ====
section
/-! DEFINITION. Every operation and the definition that gives it its meaning. -/

namespace Sys2Proof.Machine

def exec (i : Instr) (s : State) : Host.Outcome State Fault Refusal :=
  match i with
  | .tick => Sys2Proof.Machine.execTick s
  | .reset => Sys2Proof.Machine.execReset s
  | .nop => Sys2Proof.Machine.execNop s
  | .read => Sys2Proof.Machine.execRead s
  | .poll sample now => Sys2Proof.Machine.execPoll sample now s
  | .deactivate c p v => Sys2Proof.Machine.execDeactivate c p v s
  | .activate c p v => Sys2Proof.Machine.execActivate c p v s
  | .paramChange c p v => Sys2Proof.Machine.execParamChange c p v s
  | .pressure c v => Sys2Proof.Machine.execPressure c v s
  | .bend c v => Sys2Proof.Machine.execBend c v s
  | .elapsed t t0 => Sys2Proof.Machine.execElapsed t t0 s
  | .dispatchIter sample before after => Sys2Proof.Machine.execDispatchIter sample before after s

end Sys2Proof.Machine
end

