-- ==== Sys2Proof/Machine/Step.lean ====
section
/-! DEFINITION. One step: the next event of the agents is decoded and executed; with none the block waits (70_reset_and_hazards.md R210). -/

namespace Sys2Proof.Machine

/-- 00_scope.md R13: nothing happens unless an agent requests it (log 2); a reserved request is refused (30_encoding.md R82). -/
def step (s : State) : Host.Outcome State Fault Refusal :=
  match fetch s with
  | none => .next s
  | some (e, s') =>
      match decode e with
      | .ok i => exec i s'
      | .error err => .refused (refusalOf err)

/-- The state in which the next event requests what a table word stands for (log 3, log 4). -/
def State.withFetchWord (s : State) (nbits w : Nat) : State := pushEvent (tableEvent nbits w) s

end Sys2Proof.Machine
end

