-- ==== Sys2Proof/Machine/Cycle.lean ====
section
/-! DEFINITION. The cycle-level rendering (60_exceptions.md R196, 92_eei_decisions.md D15, D17), built from the operations; no rule depends on it. -/

namespace Sys2Proof.Machine

/-- What the ports carry in one clock cycle (D17): at most one request, the code `NOP` where there is none. -/
structure CycleInputs where
  rst : Bool
  tick : Bool
  request : Request
  deriving DecidableEq, Repr

/-- R196: the request of the cycle, then its tick, so that a `READ` gives the value before the increment. -/
def tickAfter (tick : Bool) (o : Host.Outcome State Fault Refusal) : Host.Outcome State Fault Refusal :=
  match o with
  | .next s => if tick then .next (tickOnce s) else .next s
  | .fault f => .fault f
  | .refused r => .refused r

/-- One clock cycle: `RESET` wins over everything in it (R196, log 21). -/
def cycle (x : CycleInputs) (s : State) : Host.Outcome State Fault Refusal :=
  if x.rst then .next (resetBlock s)
  else
    match decodeRequest x.request with
    | .ok i => tickAfter x.tick (exec i s)
    | .error err => .refused (refusalOf err)

/-- D17: the message as it is presented in the cycle of its request. -/
structure MessageOut where
  len : BitVec 2
  b0 : Byte
  b1 : Byte
  b2 : Byte
  deriving DecidableEq, Repr

/-- D17: `msg_len`, `msg_b0`, `msg_b1`, `msg_b2`; bytes a message does not have are zero (log 21). -/
def messageOut (bytes : List Byte) : MessageOut :=
  { len := BitVec.ofNat 2 bytes.length
    b0 := bytes.getD 0 0
    b1 := bytes.getD 1 0
    b2 := bytes.getD 2 0 }

/-- D17: the message wires of a cycle; no message while `rst` is raised or the request sends none. -/
def cycleMessage (x : CycleInputs) : MessageOut :=
  if x.rst then messageOut []
  else
    match decodeRequest x.request with
    | .ok i => messageOut (messageOf i)
    | .error _ => messageOut []

end Sys2Proof.Machine
end

