-- ==== Sys2Proof/Safety.lean ====
section
/-! DEFINITION. The terms of the claims: runs of operations, the conditions of the six transitions, well-formed messages and traces, the concurrency domains, and the invariant. -/

namespace Sys2Proof.Machine

/-- A sequence of operations, oldest first, stopping at the first that does not give a next state. -/
def execAll (is : List Instr) (s : State) : Host.Outcome State Fault Refusal :=
  match is with
  | [] => .next s
  | i :: rest =>
      match exec i s with
      | .next t => execAll rest t
      | .fault f => .fault f
      | .refused r => .refused r

/-- Polls whose samples could be read, as requests. -/
def pollsOf (ps : List (Bool × Word)) : List Instr := ps.map fun p => .poll (.ok p.1) p.2

/-- How many `TICK`s an operation performs. -/
def tickCount (i : Instr) : Nat :=
  match i with
  | .tick => 1
  | .dispatchIter _ before after => before + after
  | .reset => 0
  | .nop => 0
  | .read => 0
  | .poll _ _ => 0
  | .deactivate _ _ _ => 0
  | .activate _ _ _ => 0
  | .paramChange _ _ _ => 0
  | .pressure _ _ => 0
  | .bend _ _ => 0
  | .elapsed _ _ => 0

/-- How many `TICK`s a sequence of operations performs. -/
def tickTotal (is : List Instr) : Nat := (is.map tickCount).sum

/-- The successful poll an operation performs, with its sample and its time: `POLL` itself, or that of an iteration. -/
def polled (i : Instr) (s : State) : Option (Bool × Word) :=
  match i with
  | .poll (.ok raw) now => some (raw, now)
  | .dispatchIter (.ok raw) _ _ => some (raw, s.msCount)
  | .poll .fault _ => none
  | .dispatchIter .fault _ _ => none
  | .tick => none
  | .reset => none
  | .nop => none
  | .read => none
  | .deactivate _ _ _ => none
  | .activate _ _ _ => none
  | .paramChange _ _ _ => none
  | .pressure _ _ => none
  | .bend _ _ => none
  | .elapsed _ _ => none

/-- Whether the operation meets a faulted sample. -/
def meetsFault (i : Instr) : Bool :=
  match i with
  | .poll .fault _ => true
  | .dispatchIter .fault _ _ => true
  | .poll (.ok _) _ => false
  | .dispatchIter (.ok _) _ _ => false
  | .tick => false
  | .reset => false
  | .nop => false
  | .read => false
  | .deactivate _ _ _ => false
  | .activate _ _ _ => false
  | .paramChange _ _ _ => false
  | .pressure _ _ => false
  | .bend _ _ => false
  | .elapsed _ _ => false

/-- The five operations of the encoder. -/
def isEncoderOp (i : Instr) : Bool :=
  match i with
  | .deactivate _ _ _ => true
  | .activate _ _ _ => true
  | .paramChange _ _ _ => true
  | .pressure _ _ => true
  | .bend _ _ => true
  | .tick => false
  | .reset => false
  | .nop => false
  | .read => false
  | .poll _ _ => false
  | .elapsed _ _ => false
  | .dispatchIter _ _ _ => false

/-- The condition of T1 (41_debouncer.md R124). -/
abbrev takesT1 (raw : Bool) (b : Button) : Prop := b.fsm = .off ∧ raw = true

/-- The condition of T2 (R126). -/
abbrev takesT2 (raw : Bool) (now : Word) (b : Button) : Prop :=
  b.fsm = .debouncingOn ∧ raw = true ∧ b.confirmMs.toNat < (elapsed now b.onStart).toNat

/-- The condition of T3 (R127). -/
abbrev takesT3 (raw : Bool) (now : Word) (b : Button) : Prop :=
  b.fsm = .debouncingOn ∧ raw = false ∧ b.timeoutMs.toNat < (elapsed now b.onStart).toNat

/-- The condition of T4 (R129). -/
abbrev takesT4 (raw : Bool) (b : Button) : Prop := b.fsm = .on ∧ raw = false

/-- The condition of T5 (R131). -/
abbrev takesT5 (raw : Bool) (now : Word) (b : Button) : Prop :=
  b.fsm = .debouncingOff ∧ raw = false ∧ b.confirmMs.toNat < (elapsed now b.offStart).toNat

/-- The condition of T6 (R132). -/
abbrev takesT6 (raw : Bool) (now : Word) (b : Button) : Prop :=
  b.fsm = .debouncingOff ∧ raw = true ∧ b.timeoutMs.toNat < (elapsed now b.offStart).toNat

/-- How many of a sequence of polls pass a test of the button before the poll, its sample and its time. -/
def countPolls (test : Button → Bool → Word → Bool) (ps : List (Bool × Word)) (b : Button) : Nat :=
  match ps with
  | [] => 0
  | (raw, now) :: rest =>
      (if test b raw now then 1 else 0) + countPolls test rest (pollButton raw now b)

/-- Whether a poll takes T2, as a test for `countPolls`. -/
def activates (b : Button) (raw : Bool) (now : Word) : Bool :=
  decide (b.fsm = .debouncingOn ∧ raw = true ∧ b.confirmMs.toNat < (elapsed now b.onStart).toNat)

/-- Whether a poll takes T5, as a test for `countPolls`. -/
def deactivates (b : Button) (raw : Bool) (now : Word) : Bool :=
  decide (b.fsm = .debouncingOff ∧ raw = false ∧ b.confirmMs.toNat < (elapsed now b.offStart).toNat)

/-- Whether `rising` holds after a poll. -/
def risesAfter (b : Button) (raw : Bool) (now : Word) : Bool := rising (pollButton raw now b)

/-- Whether `falling` holds after a poll. -/
def fallsAfter (b : Button) (raw : Bool) (now : Word) : Bool := falling (pollButton raw now b)

/-- Polls that neither confirm nor reject a debouncing episode that began at `start` (R128, R133): an asserted sample
within `whenTrue`, a de-asserted one within `whenFalse`. -/
abbrev undecided (start whenTrue whenFalse : Word) (ps : List (Bool × Word)) : Prop :=
  ∀ p ∈ ps, (elapsed p.2 start).toNat ≤ (if p.1 then whenTrue.toNat else whenFalse.toNat)

/-- A bounce that is rejected (R141): it begins with an asserted sample, stays undecided, meets a de-asserted sample past
the timeout, and de-asserted samples follow. -/
structure Bounce where
  start : Word
  waits : List (Bool × Word)
  rejected : Word
  idle : List Word
  deriving DecidableEq, Repr

/-- The polls of a bounce. -/
def bouncePolls (x : Bounce) : List (Bool × Word) :=
  (true, x.start) :: x.waits ++ (false, x.rejected) :: x.idle.map fun t => (false, t)

/-- The times of a bounce against the two thresholds. -/
abbrev bounceRejected (confirm timeout : Word) (x : Bounce) : Prop :=
  undecided x.start confirm timeout x.waits ∧ timeout.toNat < (elapsed x.rejected x.start).toNat

/-- The encoder operation with its inputs in range (42_protocol_encoder.md R156), in the clamps of 30_encoding.md R76
to R78; other operations as they are. -/
def clampInputs (i : Instr) : Instr :=
  match i with
  | .deactivate c p v => .deactivate (inChannel c) (inSeven p) (inSeven v)
  | .activate c p v => .activate (inChannel c) (inSeven p) (inSeven v)
  | .paramChange c p v => .paramChange (inChannel c) (inSeven p) (inSeven v)
  | .pressure c v => .pressure (inChannel c) (inSeven v)
  | .bend c v => .bend (inChannel c) (BitVec.ofNat 16 (min v.toNat 16383))
  | .tick => .tick
  | .reset => .reset
  | .nop => .nop
  | .read => .read
  | .poll sample now => .poll sample now
  | .elapsed t t0 => .elapsed t t0
  | .dispatchIter sample before after => .dispatchIter sample before after
where
  /-- A channel number 1 to 16. -/
  inChannel (c : Byte) : Byte := BitVec.ofNat 8 (min (max c.toNat 1) 16)
  /-- A value 0 to 127. -/
  inSeven (v : Byte) : Byte := BitVec.ofNat 8 (min v.toNat 127)

/-- What 30_encoding.md R83 and R84 say of every message: a status byte with high nibble D and one data byte, or 8, 9, B
or E and two; every data byte below 0x80. -/
def messageOk (m : List Byte) : Bool :=
  match m with
  | [st, d] => highNibble st == 0xD && !d.msb
  | [st, d1, d2] =>
      (highNibble st == 0x8 || highNibble st == 0x9 || highNibble st == 0xB || highNibble st == 0xE)
        && !d1.msb && !d2.msb
  | _ => false

/-- The sink events of one message: its bytes, then the flush (20_memory.md R53, R63). -/
def framed (m : List Byte) : List SinkEvent := m.map SinkEvent.write ++ [.flush]

/-- A trace of whole messages, each well formed and followed by its flush (R63, R66). -/
def traceOk (trace : List SinkEvent) : Prop :=
  ∃ ms : List (List Byte), trace = ms.flatMap framed ∧ ∀ m ∈ ms, messageOk m = true

/-- 10_state.md R34: `fsm` and `state` are coupled. -/
def coupled (b : Button) : Bool :=
  match b.fsm with
  | .off => !b.state
  | .debouncingOn => !b.state
  | .on => b.state
  | .debouncingOff => b.state

/-- What every step keeps: the coupling (R34), the order of the thresholds (R29), a legal Dispatcher value
(43_dispatcher_boundary.md R181), and a trace of whole messages. -/
structure MachineInv (s : State) : Prop where
  coupling : coupled s.button = true
  thresholds : thresholdsOrdered s.button.confirmMs s.button.timeoutMs = true
  dispatchValue : dispValueLegal s.dispatcher.valueOn = true
  trace : traceOk s.sinkTrace

/-- 60_exceptions.md R199: who may request an operation. -/
inductive Domain where
  | interrupt
  | loop
  | external
  /-- Nobody: the helper `ELAPSED` is used inside `POLL` (00_scope.md R3). -/
  | nobody
  /-- The boundary composition of both domains' operations (43_dispatcher_boundary.md R180). -/
  | boundary
  deriving DecidableEq, Repr

/-- The domain of each operation (R199). -/
def domainOf (i : Instr) : Domain :=
  match i with
  | .tick => .interrupt
  | .reset => .external
  | .nop => .loop
  | .read => .loop
  | .poll _ _ => .loop
  | .deactivate _ _ _ => .loop
  | .activate _ _ _ => .loop
  | .paramChange _ _ _ => .loop
  | .pressure _ _ => .loop
  | .bend _ _ => .loop
  | .elapsed _ _ => .nobody
  | .dispatchIter _ _ _ => .boundary

/-- Whether an event is a request on the request port. -/
def isRequest (e : Event) : Bool :=
  match e with
  | .request _ => true
  | .tick => false
  | .rst => false
  | .iterate _ _ _ => false

end Sys2Proof.Machine
end

