-- ==== Sys2Proof/Certificates/Slice0/Obligations.lean ====
section
/-! DEFINITION. The statements for the provers. Each docstring names the rule of spec/ it formalises or the section it rests on. -/

open Sys2Proof Sys2Proof.Machine

/-! Decoding, encoding and the step -/

/-- 00_scope.md R13: the step runs the operation of the next event, waits where nothing is requested (the model's choice
of how, log 1 and log 2), and refuses a reserved request by name. -/
def Obligations.StepRunsTheDecodedOperation : Prop :=
  ∀ s : State,
    (s.inputs = [] → step s = .next s) ∧
    (∀ e rest i, s.inputs = e :: rest → decode e = .ok i → step s = exec i { s with inputs := rest }) ∧
    (∀ e rest code, s.inputs = e :: rest → decode e = .error (.reservedOpSel code) →
      step s = .refused (.reservedOpSel code))

/-- A few words written out from the encodings of 30_encoding.md R70, R80 and R81. -/
def Obligations.WrittenWordsDecode : Prop :=
  decodeTableWord 24 0b100110100011110001000000 = some (.activate 11 60 64) ∧
  decodeTableWord 24 0b100010010011110001000000 = some (.deactivate 10 60 64) ∧
  decodeTableWord 24 0b101111110000011101100100 = some (.paramChange 16 7 100) ∧
  decodeTableWord 16 0b1101010001111111 = some (.pressure 5 127) ∧
  decodeTableWord 24 0b111010000011010000100100 = some (.bend 9 0x1234) ∧
  decodeTableWord 8 0b0001 = some .read ∧
  decodeTableWord 8 0b0000 = some .nop ∧
  decode (.request { opSel := 0b0010, now := 101, c := 0, p := 0, v := 0, sample := .ok true })
    = .ok (.poll (.ok true) 101)

/-- 30_encoding.md R82: a request is refused exactly if its code is reserved, and the step then gives no next state. -/
def Obligations.ReservedCodesAreRefused : Prop :=
  ∀ r : Request,
    ((∃ i, decode (.request r) = .ok i) ↔ r.opSel.toNat ∉ [0x3, 0x4, 0x5, 0x6, 0x7, 0xA, 0xC, 0xF]) ∧
    (r.opSel.toNat ∈ [0x3, 0x4, 0x5, 0x6, 0x7, 0xA, 0xC, 0xF] →
      ∀ (s : State) (rest : List Event), s.inputs = .request r :: rest →
        step s = .refused (.reservedOpSel r.opSel))

/-- Decoding the event of a requestable operation gives the operation back with every operand, and the one operation
nothing can request has no event and is no event's (30_encoding.md R81, 00_scope.md R3). -/
def Obligations.DecodeOfEncodeIsTheOperation : Prop :=
  ∀ i : Instr,
    (i.wellFormed = true → ∃ e, encode i = some e ∧ decode e = .ok i) ∧
    (i.wellFormed = false → encode i = none ∧ ∀ e, decode e ≠ .ok i)

/-- 42_protocol_encoder.md R156: what an encoder operation appends is one well-formed message and its flush, from which
the operation and the clamped inputs are recovered, and two operations are told apart exactly by those. -/
def Obligations.MessagesDetermineTheClampedOperation : Prop :=
  (∀ (i : Instr) (s : State), isEncoderOp i = true →
    ∃ bytes, exec i s = .next { s with sinkTrace := s.sinkTrace ++ framed bytes } ∧
      messageOk bytes = true ∧ decodeMessage bytes = .ok (clampInputs i)) ∧
  (∀ (i j : Instr) (s : State), isEncoderOp i = true → isEncoderOp j = true →
    (exec i s = exec j s ↔ clampInputs i = clampInputs j))

/-- 42_protocol_encoder.md R156 and 30_encoding.md R84, the other direction: the decoder of messages accepts exactly the
well-formed ones, and the operation it gives sends those bytes. -/
def Obligations.EveryMessageIsSentByItsOperation : Prop :=
  ∀ bytes : List Byte,
    (messageOk bytes = true ↔ ∃ i, decodeMessage bytes = .ok i) ∧
    ∀ i : Instr, decodeMessage bytes = .ok i →
      isEncoderOp i = true ∧ clampInputs i = i ∧
      ∀ s : State, exec i s = .next { s with sinkTrace := s.sinkTrace ++ framed bytes }

/-- 30_encoding.md R85: the codes of `fsm`, one each and none reserved; the two bits differ exactly in the two debouncing
states. -/
def Obligations.FsmCodesFollowTheListing : Prop :=
  DebounceState.code .off = 0b00 ∧ DebounceState.code .debouncingOn = 0b01 ∧
  DebounceState.code .debouncingOff = 0b10 ∧ DebounceState.code .on = 0b11 ∧
  (∀ f : DebounceState, debounceStateOfCode f.code = f) ∧
  (∀ c : BitVec 2, (debounceStateOfCode c).code = c) ∧
  (∀ f : DebounceState, (f.code.getLsbD 1 ^^ f.code.getLsbD 0) = true ↔ f = .debouncingOn ∨ f = .debouncingOff)

/-! The millisecond counter -/

/-- 40_time_source.md R100: the counter is one more, modulo 2^32, nothing else changes, and only the tick port requests it. -/
def Obligations.TickIncrementsTheCounterOnly : Prop :=
  (∀ s : State, ∃ t, exec .tick s = .next t ∧
    t.msCount.toNat = (s.msCount.toNat + 1) % 2 ^ 32 ∧ t = { s with msCount := t.msCount }) ∧
  (∀ e : Event, decode e = .ok .tick ↔ e = .tick)

/-- 40_time_source.md R101: the counter's whole value is returned, no register is written, and `op_sel` 1 requests it. -/
def Obligations.ReadReturnsTheCounter : Prop :=
  (∀ s : State, ∃ t, exec .read s = .next t ∧ countOut t = some s.msCount ∧
    t = { s with results := s.results ++ [.count s.msCount] }) ∧
  (∀ e : Event, decode e = .ok .read ↔ ∃ r, e = .request r ∧ r.opSel = 0x1)

/-- 40_time_source.md R102: the printed formula, as what the helper returns; no register changes. -/
def Obligations.ElapsedIsThePrintedFormula : Prop :=
  ∀ (t t0 : Word) (s : State), ∃ e : Word,
    exec (.elapsed t t0) s = .next { s with results := s.results ++ [.elapsed e] } ∧
    (t0.toNat ≤ t.toNat → e.toNat = t.toNat - t0.toNat) ∧
    (t.toNat < t0.toNat → e.toNat = (0xFFFFFFFF - t0.toNat) + t.toNat)

/-- 40_time_source.md R103: no intermediate leaves 0 to `U32_MAX`, under either value of `WRAP_ADJ`, so a 32-bit datapath
computes the formula. -/
def Obligations.ElapsedFitsThe32BitDatapath : Prop :=
  ∀ t t0 : Word,
    (t0 ≤ t → elapsedExact 0 t t0 ≤ 0xFFFFFFFF) ∧
    (t < t0 → elapsedExact 0 t t0 ≤ 0xFFFFFFFF - 1) ∧
    elapsedExact 1 t t0 ≤ 0xFFFFFFFF ∧
    elapsed t t0 = (if t0 ≤ t then t - t0 else (0xFFFFFFFF - t0) + t)

/-- 40_time_source.md R104: exact when the counter did not wrap, one short when it wrapped once, exact in both cases with
`WRAP_ADJ = 1`; a threshold is therefore met one tick later across the wrap. -/
def Obligations.ElapsedIsOneShortAcrossTheWrap : Prop :=
  (∀ (t0 : Word) (d : Nat), d ≤ 0xFFFFFFFF →
    ∀ t : Word, t = t0 + BitVec.ofNat 32 d →
      (t0 ≤ t → (elapsed t t0).toNat = d) ∧
      (t < t0 → (elapsed t t0).toNat + 1 = d) ∧
      (elapsedWith 1 t t0).toNat = d ∧
      ∀ threshold : Word,
        (t0 ≤ t → (exceeds (elapsed t t0) threshold = true ↔ threshold.toNat < d)) ∧
        (t < t0 → (exceeds (elapsed t t0) threshold = true ↔ threshold.toNat + 1 < d))) ∧
  (∀ t t0 : Word, (t < t0 → elapsed t t0 = (t - t0) - 1) ∧ elapsedWith 1 t t0 = t - t0)

/-- 40_time_source.md R106: no operation but `RESET` changes the counter otherwise than by its ticks, and a later `READ`
returns the earlier reading plus the ticks between them, which is no less unless they carried the counter over its end. -/
def Obligations.LaterReadsCountTheTicks : Prop :=
  (∀ (i : Instr) (s t : State), i ≠ .reset → exec i s = .next t →
    t.msCount = s.msCount + BitVec.ofNat 32 (tickCount i)) ∧
  (∀ (is : List Instr) (s : State), .reset ∉ is →
    ∃ t, execAll (.read :: is ++ [.read]) s = .next t ∧
      countOut t = some (s.msCount + BitVec.ofNat 32 (tickTotal is)) ∧
      (s.msCount.toNat + tickTotal is ≤ 0xFFFFFFFF → s.msCount ≤ t.msCount))

/-! The debouncer, one statement per arm -/

/-- 41_debouncer.md R124 (T1) and R125: the arm of `Off`, with no time condition; T1 is the only write of `on_start`
outside reset. -/
def Obligations.PollInOff : Prop :=
  (∀ (s : State) (now : Word), s.button.fsm = .off →
    exec (.poll (.ok true) now) s = .next { s with
      button := { s.button with fsm := .debouncingOn, onStart := now, prevState := s.button.state }
      results := s.results ++ [.poll .done] } ∧
    exec (.poll (.ok false) now) s = .next { s with
      button := { s.button with prevState := s.button.state }
      results := s.results ++ [.poll .done] }) ∧
  (∀ (i : Instr) (s t : State), i ≠ .reset → exec i s = .next t → t.button.onStart ≠ s.button.onStart →
    s.button.fsm = .off ∧ ∃ now, polled i s = some (true, now))

/-- 41_debouncer.md R126 (T2), R127 (T3) and R128: the arm of `DebouncingOn`; `on_start` is not refreshed, and T2 is the
only place outside reset where `toggle` changes. -/
def Obligations.PollInDebouncingOn : Prop :=
  (∀ (s : State) (now : Word), s.button.fsm = .debouncingOn →
    (s.button.confirmMs.toNat < (elapsed now s.button.onStart).toNat →
      exec (.poll (.ok true) now) s = .next { s with
        button := { s.button with
          fsm := .on, state := true, toggle := !s.button.toggle, prevState := s.button.state }
        results := s.results ++ [.poll .done] }) ∧
    ((elapsed now s.button.onStart).toNat ≤ s.button.confirmMs.toNat →
      exec (.poll (.ok true) now) s = .next { s with
        button := { s.button with prevState := s.button.state }
        results := s.results ++ [.poll .done] }) ∧
    (s.button.timeoutMs.toNat < (elapsed now s.button.onStart).toNat →
      exec (.poll (.ok false) now) s = .next { s with
        button := { s.button with fsm := .off, prevState := s.button.state }
        results := s.results ++ [.poll .done] }) ∧
    ((elapsed now s.button.onStart).toNat ≤ s.button.timeoutMs.toNat →
      exec (.poll (.ok false) now) s = .next { s with
        button := { s.button with prevState := s.button.state }
        results := s.results ++ [.poll .done] })) ∧
  (∀ (i : Instr) (s t : State), i ≠ .reset → exec i s = .next t → t.button.toggle ≠ s.button.toggle →
    ∃ now, polled i s = some (true, now) ∧ takesT2 true now s.button)

/-- 41_debouncer.md R129 (T4) and R130: the arm of `On`, with no time condition; T4 is the only write of `off_start`
outside reset. -/
def Obligations.PollInOn : Prop :=
  (∀ (s : State) (now : Word), s.button.fsm = .on →
    exec (.poll (.ok false) now) s = .next { s with
      button := { s.button with fsm := .debouncingOff, offStart := now, prevState := s.button.state }
      results := s.results ++ [.poll .done] } ∧
    exec (.poll (.ok true) now) s = .next { s with
      button := { s.button with prevState := s.button.state }
      results := s.results ++ [.poll .done] }) ∧
  (∀ (i : Instr) (s t : State), i ≠ .reset → exec i s = .next t → t.button.offStart ≠ s.button.offStart →
    s.button.fsm = .on ∧ ∃ now, polled i s = some (false, now))

/-- 41_debouncer.md R131 (T5), R132 (T6) and R133: the arm of `DebouncingOff`; `off_start` is not refreshed and `toggle`
is not written. -/
def Obligations.PollInDebouncingOff : Prop :=
  ∀ (s : State) (now : Word), s.button.fsm = .debouncingOff →
    (s.button.confirmMs.toNat < (elapsed now s.button.offStart).toNat →
      exec (.poll (.ok false) now) s = .next { s with
        button := { s.button with fsm := .off, state := false, prevState := s.button.state }
        results := s.results ++ [.poll .done] }) ∧
    ((elapsed now s.button.offStart).toNat ≤ s.button.confirmMs.toNat →
      exec (.poll (.ok false) now) s = .next { s with
        button := { s.button with prevState := s.button.state }
        results := s.results ++ [.poll .done] }) ∧
    (s.button.timeoutMs.toNat < (elapsed now s.button.offStart).toNat →
      exec (.poll (.ok true) now) s = .next { s with
        button := { s.button with fsm := .on, prevState := s.button.state }
        results := s.results ++ [.poll .done] }) ∧
    ((elapsed now s.button.offStart).toNat ≤ s.button.timeoutMs.toNat →
      exec (.poll (.ok true) now) s = .next { s with
        button := { s.button with prevState := s.button.state }
        results := s.results ++ [.poll .done] })

/-- 41_debouncer.md R134: a faulted poll returns `Fault` and writes no register, `prev_state` included. -/
def Obligations.FaultedPollWritesNothing : Prop :=
  ∀ (s : State) (now : Word), ∃ t,
    exec (.poll .fault now) s = .next t ∧ pollResult t = some .fault ∧
    t = { s with results := s.results ++ [.poll .fault] }

/-- 60_exceptions.md R190: every operation completes; `POLL` returns `Fault` exactly on a faulted sample, by itself or
within an iteration, and then no register of the button is written; nothing else faults. -/
def Obligations.OnlyFaultedSamplesFault : Prop :=
  ∀ (i : Instr) (s : State), ∃ t, exec i s = .next t ∧
    (i ≠ .reset → ∃ new, t.results = s.results ++ new ∧ (.poll .fault ∈ new ↔ meetsFault i = true)) ∧
    (meetsFault i = true → t.button = s.button)

/-- 60_exceptions.md R198: over faulted polls and ticks in any order the button stays as it was while time goes on. -/
def Obligations.TimePassesWhilePollsFault : Prop :=
  ∀ (is : List Instr) (s : State), (∀ i ∈ is, i = .tick ∨ ∃ now, i = .poll .fault now) →
    ∃ t, execAll is s = .next t ∧ t.button = s.button ∧ t.sinkTrace = s.sinkTrace ∧
      t.msCount = s.msCount + BitVec.ofNat 32 (is.count .tick)

/-- 60_exceptions.md R192: `poll_result` describes the latest poll only: every poll overwrites it and nothing else but
`RESET` changes it. -/
def Obligations.PollResultIsTheLatestPolls : Prop :=
  ∀ (i : Instr) (s : State), ∃ t, exec i s = .next t ∧
    (meetsFault i = true → pollResult t = some .fault) ∧
    ((∃ p, polled i s = some p) → pollResult t = some .done) ∧
    (i ≠ .reset → meetsFault i = false → polled i s = none → pollResult t = pollResult s)

/-! The transition graph and the invariants of 41_debouncer.md -/

/-- 41_debouncer.md R137: a poll changes `fsm` exactly by T1 to T6, each to its own target. -/
def Obligations.TransitionsAreExactlyTheSix : Prop :=
  ∀ (s : State) (raw : Bool) (now : Word), ∃ t, exec (.poll (.ok raw) now) s = .next t ∧
    (t.button.fsm ≠ s.button.fsm ↔
      takesT1 raw s.button ∨ takesT2 raw now s.button ∨ takesT3 raw now s.button ∨
      takesT4 raw s.button ∨ takesT5 raw now s.button ∨ takesT6 raw now s.button) ∧
    (takesT1 raw s.button → t.button.fsm = .debouncingOn) ∧
    (takesT2 raw now s.button → t.button.fsm = .on) ∧
    (takesT3 raw now s.button → t.button.fsm = .off) ∧
    (takesT4 raw s.button → t.button.fsm = .debouncingOff) ∧
    (takesT5 raw now s.button → t.button.fsm = .off) ∧
    (takesT6 raw now s.button → t.button.fsm = .on)

/-- 41_debouncer.md R122: the snapshot of every poll, the edge exactly after T2 and T5, and its end at the next poll.
The premise is the coupling of R34, which every step keeps. -/
def Obligations.EdgeExactlyAfterConfirmation : Prop :=
  ∀ (s t : State) (raw : Bool) (now : Word), coupled s.button = true →
    exec (.poll (.ok raw) now) s = .next t →
      t.button.prevState = s.button.state ∧
      (edge t.button = true ↔ takesT2 raw now s.button ∨ takesT5 raw now s.button) ∧
      (edge t.button = true → ∀ (raw' : Bool) (now' : Word) (u : State),
        exec (.poll (.ok raw') now') t = .next u → edge u.button = false)

/-- 10_state.md R25: no operation but `RESET` changes `toggle` otherwise than by T2. -/
def Obligations.ToggleFlipsExactlyOnActivation : Prop :=
  ∀ (i : Instr) (s t : State), i ≠ .reset → exec i s = .next t →
    (t.button.toggle ≠ s.button.toggle ↔
      ∃ raw now, polled i s = some (raw, now) ∧ takesT2 raw now s.button)

/-- 41_debouncer.md R135: no operation but `RESET` writes a timestamp otherwise than T1 and T4, which store the time of
their poll. -/
def Obligations.TimestampsRecordFirstEdges : Prop :=
  ∀ (i : Instr) (s t : State), i ≠ .reset → exec i s = .next t →
    (∀ raw now, polled i s = some (raw, now) →
      (takesT1 raw s.button → t.button.onStart = now) ∧
      (¬ takesT1 raw s.button → t.button.onStart = s.button.onStart) ∧
      (takesT4 raw s.button → t.button.offStart = now) ∧
      (¬ takesT4 raw s.button → t.button.offStart = s.button.offStart)) ∧
    (polled i s = none → t.button.onStart = s.button.onStart ∧ t.button.offStart = s.button.offStart)

/-- 41_debouncer.md R136: after any polls from reset, `toggle` is the parity of the T2 transitions, `rising` and `falling`
have held as often as T2 and T5 were taken, and the activations lead by at most one. -/
def Obligations.ToggleIsTheParityOfActivations : Prop :=
  ∀ (ps : List (Bool × Word)) (s : State),
    s.button = Button.atReset s.button.confirmMs s.button.timeoutMs →
    ∃ t, execAll (pollsOf ps) s = .next t ∧
      t.button.toggle.toNat = countPolls activates ps s.button % 2 ∧
      countPolls risesAfter ps s.button = countPolls activates ps s.button ∧
      countPolls fallsAfter ps s.button = countPolls deactivates ps s.button ∧
      countPolls deactivates ps s.button ≤ countPolls activates ps s.button ∧
      countPolls activates ps s.button ≤ countPolls deactivates ps s.button + 1

/-- 41_debouncer.md R138: polling twice with the same sample and time leaves all but `prev_state` as polling once does,
for every state. -/
def Obligations.PollingTwiceIsPollingOnce : Prop :=
  ∀ (s : State) (raw : Bool) (now : Word), ∃ t u,
    exec (.poll (.ok raw) now) s = .next t ∧ exec (.poll (.ok raw) now) t = .next u ∧
    u.button = { t.button with prevState := t.button.state }

/-- 41_debouncer.md R140: from `Off`, a sample held asserted is confirmed at the first poll past the confirmation
threshold, and at no other poll does `toggle` flip or `state` change. -/
def Obligations.HeldPressConfirmsOnce : Prop :=
  ∀ (s : State) (a b : Word) (early late : List Word), s.button.fsm = .off →
    (∀ w ∈ early, (elapsed w a).toNat ≤ s.button.confirmMs.toNat) →
    s.button.confirmMs.toNat < (elapsed b a).toNat →
    (∃ t, execAll (pollsOf ((a :: early).map fun w => (true, w))) s = .next t ∧
      t.button.fsm = .debouncingOn ∧ t.button.state = s.button.state ∧ t.button.toggle = s.button.toggle) ∧
    (∃ t, execAll (pollsOf ((a :: early ++ b :: late).map fun w => (true, w))) s = .next t ∧
      t.button.fsm = .on ∧ t.button.state = true ∧ t.button.toggle = !s.button.toggle)

/-- 41_debouncer.md R141 and R128, R133: samples in the other direction before the timeout do not restart an episode; the
first sample in its own direction past the confirmation threshold since its start confirms it, in both directions. -/
def Obligations.BouncesDoNotRestartTheEpisode : Prop :=
  ∀ (s : State) (a b : Word) (ps : List (Bool × Word)),
    s.button.confirmMs.toNat < (elapsed b a).toNat →
    (s.button.fsm = .off → undecided a s.button.confirmMs s.button.timeoutMs ps →
      ∃ t, execAll (pollsOf ((true, a) :: ps ++ [(true, b)])) s = .next t ∧
        t.button.fsm = .on ∧ t.button.state = true ∧ t.button.toggle = (!s.button.toggle) ∧
        t.button.onStart = a) ∧
    (s.button.fsm = .on → undecided a s.button.timeoutMs s.button.confirmMs ps →
      ∃ t, execAll (pollsOf ((false, a) :: ps ++ [(false, b)])) s = .next t ∧
        t.button.fsm = .off ∧ t.button.state = false ∧ t.button.toggle = s.button.toggle ∧
        t.button.offStart = a)

/-- 41_debouncer.md R141, the restricted property: however many bounces, each met by a de-asserted poll past the timeout
before a confirmation, `state` and `toggle` do not change and the machine is back in `Off`. -/
def Obligations.RejectedBouncesNeverConfirm : Prop :=
  ∀ (xs : List Bounce) (s : State), s.button.fsm = .off →
    (∀ x ∈ xs, bounceRejected s.button.confirmMs s.button.timeoutMs x) →
    ∃ t, execAll (pollsOf (xs.flatMap bouncePolls)) s = .next t ∧
      t.button.fsm = .off ∧ t.button.state = s.button.state ∧ t.button.toggle = s.button.toggle

/-- 41_debouncer.md R142: a sample asserted at every poll never returns the machine to `Off`, whatever the order of the
thresholds. -/
def Obligations.AssertedSamplesNeverReject : Prop :=
  ∀ (ws : List Word) (s : State), s.button.fsm ≠ .off →
    ∃ t, execAll (pollsOf (ws.map fun w => (true, w))) s = .next t ∧ t.button.fsm ≠ .off

/-- 41_debouncer.md R143, cases a, e and f: at its own start time an episode is not decided, even by zero thresholds; a
time that ran backwards exceeds every threshold below the huge value of `ELAPSED`; the largest threshold is never
exceeded. -/
def Obligations.ThresholdCornerCases : Prop :=
  ∀ (s : State) (raw : Bool) (now : Word), ∃ t, exec (.poll (.ok raw) now) s = .next t ∧
    (s.button.fsm = .debouncingOn → now = s.button.onStart → t.button.fsm = .debouncingOn) ∧
    (s.button.fsm = .debouncingOff → now = s.button.offStart → t.button.fsm = .debouncingOff) ∧
    (s.button.fsm = .debouncingOn → raw = true → now < s.button.onStart →
      s.button.confirmMs.toNat + (s.button.onStart.toNat - now.toNat) < 0xFFFFFFFF → t.button.fsm = .on) ∧
    (s.button.confirmMs = 0xFFFFFFFF →
      t.button.state = s.button.state ∧ t.button.toggle = s.button.toggle)

/-! The encoder -/

/-- 42_protocol_encoder.md R151, R152, R153: three bytes and a flush, clamped, and nothing else. -/
def Obligations.ThreeByteMessages : Prop :=
  ∀ (s : State) (c p v : Byte) (n : Nat), n = min (max c.toNat 1) 16 - 1 →
    (exec (.activate c p v) s = .next { s with sinkTrace := s.sinkTrace ++
      [.write (BitVec.ofNat 8 (0x90 + n)), .write (BitVec.ofNat 8 (min p.toNat 127)),
        .write (BitVec.ofNat 8 (min v.toNat 127)), .flush] }) ∧
    (exec (.deactivate c p v) s = .next { s with sinkTrace := s.sinkTrace ++
      [.write (BitVec.ofNat 8 (0x80 + n)), .write (BitVec.ofNat 8 (min p.toNat 127)),
        .write (BitVec.ofNat 8 (min v.toNat 127)), .flush] }) ∧
    (exec (.paramChange c p v) s = .next { s with sinkTrace := s.sinkTrace ++
      [.write (BitVec.ofNat 8 (0xB0 + n)), .write (BitVec.ofNat 8 (min p.toNat 127)),
        .write (BitVec.ofNat 8 (min v.toNat 127)), .flush] })

/-- 42_protocol_encoder.md R154: two bytes and a flush, clamped, and nothing else. -/
def Obligations.PressureMessage : Prop :=
  ∀ (s : State) (c v : Byte),
    exec (.pressure c v) s = .next { s with sinkTrace := s.sinkTrace ++
      [.write (BitVec.ofNat 8 (0xD0 + (min (max c.toNat 1) 16 - 1))),
        .write (BitVec.ofNat 8 (min v.toNat 127)), .flush] }

/-- 42_protocol_encoder.md R155: status, low half, high half and a flush, clamped and not masked, and nothing else. -/
def Obligations.BendMessage : Prop :=
  ∀ (s : State) (c : Byte) (v : Half),
    exec (.bend c v) s = .next { s with sinkTrace := s.sinkTrace ++
      [.write (BitVec.ofNat 8 (0xE0 + (min (max c.toNat 1) 16 - 1))),
        .write (BitVec.ofNat 8 (min v.toNat 16383 % 128)),
        .write (BitVec.ofNat 8 (min v.toNat 16383 / 128)), .flush] }

/-- 30_encoding.md R76, R77, R78: the three clamps on all integers, and on the unsigned ports. -/
def Obligations.ClampsOnAllIntegers : Prop :=
  (∀ v : Int, (v < 0 → clamp7 v = 0) ∧ (0 ≤ v ∧ v ≤ 127 → clamp7 v = v) ∧ (127 < v → clamp7 v = 127)) ∧
  (∀ v : Int, (v < 0 → clamp14 v = 0) ∧ (0 ≤ v ∧ v ≤ 16383 → clamp14 v = v) ∧ (16383 < v → clamp14 v = 16383)) ∧
  (∀ c : Int, (c ≤ 1 → chan c = 0) ∧ (1 < c ∧ c < 16 → chan c = c - 1) ∧ (16 ≤ c → chan c = 15)) ∧
  (∀ v : Byte, (dataByte v).toNat = min v.toNat 127) ∧
  (∀ v : Half, (bendValue v).toNat = min v.toNat 16383)

/-- 30_encoding.md R79: the two halves of the bend value, and their inverse. -/
def Obligations.BendSplitsLowHalfFirst : Prop :=
  ∀ b : BitVec 14,
    (bendLow b).toNat = b.toNat % 128 ∧ (bendHigh b).toNat = b.toNat / 128 ∧
    (joinBend (bendLow b) (bendHigh b)).toNat = b.toNat

/-- 30_encoding.md R71 and R78: base code OR channel nibble, for the five base codes. -/
def Obligations.StatusBytesHoldBaseAndChannel : Prop :=
  ∀ (base c : Byte), base ∈ [0x80, 0x90, 0xB0, 0xD0, 0xE0] →
    highNibble (statusByte base c) = highNibble base ∧
    (lowNibble (statusByte base c)).toNat = min (max c.toNat 1) 16 - 1 ∧
    (statusByte base c).msb = true

/-- 10_state.md R32: an encoder operation writes no register, and what it appends to the trace does not depend on the
state. -/
def Obligations.EncoderIsStateless : Prop :=
  ∀ i : Instr, isEncoderOp i = true → ∃ new : List SinkEvent,
    ∀ s : State, exec i s = .next { s with sinkTrace := s.sinkTrace ++ new }

/-- 30_encoding.md R83, 20_memory.md R66: whatever operation runs, what it appends to the trace is at most one whole
well-formed message with its flush; one exactly for an encoder operation, none outside the encoder and the Dispatcher. -/
def Obligations.OnlyWholeMessagesReachTheSink : Prop :=
  ∀ (i : Instr) (s : State), ∃ t, exec i s = .next t ∧
    (i = .reset → t.sinkTrace = []) ∧
    (i ≠ .reset → ∃ ms : List (List Byte), t.sinkTrace = s.sinkTrace ++ ms.flatMap framed ∧
      (∀ m ∈ ms, messageOk m = true) ∧ ms.length ≤ 1 ∧
      (isEncoderOp i = true → ms.length = 1) ∧
      (isEncoderOp i = false → domainOf i ≠ .boundary → ms = []))

/-! The Dispatcher at the boundary -/

/-- 43_dispatcher_boundary.md R180: an iteration is its expansion. With any ticks in its two gaps (log 13, log 14), it is
`READ`, `POLL` with the value read, and on an edge one `ACTIVATE` and the indicator; a fault is passed on. -/
def Obligations.IterationIsItsExpansion : Prop :=
  ∀ (sample : Sample) (before after : Nat) (s : State), ∃ t u w,
    exec (.dispatchIter sample before after) s = .next t ∧
    execAll (.read :: List.replicate before .tick ++ .poll sample s.msCount :: List.replicate after .tick) s
      = .next u ∧
    exec (.activate u.dispatcher.channel u.dispatcher.param
      (if u.button.state then u.dispatcher.valueOn else 0)) u = .next w ∧
    (sample = .fault → t = { u with results := u.results ++ [.iteration .fault] }) ∧
    (sample ≠ .fault → u.button.state = u.button.prevState →
      t = { u with results := u.results ++ [.iteration .done] }) ∧
    (sample ≠ .fault → u.button.state ≠ u.button.prevState →
      t = { w with
        dispatcher := { w.dispatcher with indicator := w.button.state }
        results := w.results ++ [.iteration .done] })

/-- 43_dispatcher_boundary.md R181: one message per edge and none without one; its value is `DISP_VALUE_ON`, which is
1 to 127, on a rising edge and 0 on a falling one. -/
def Obligations.OneMessagePerEdge : Prop :=
  ∀ (raw : Bool) (before after : Nat) (s t : State), dispValueLegal s.dispatcher.valueOn = true →
    exec (.dispatchIter (.ok raw) before after) s = .next t →
      (edge t.button = false → t.sinkTrace = s.sinkTrace) ∧
      (rising t.button = true → t.sinkTrace = s.sinkTrace ++
        [.write (BitVec.ofNat 8 (0x90 + (min (max s.dispatcher.channel.toNat 1) 16 - 1))),
          .write (BitVec.ofNat 8 (min s.dispatcher.param.toNat 127)), .write s.dispatcher.valueOn, .flush]) ∧
      (falling t.button = true → t.sinkTrace = s.sinkTrace ++
        [.write (BitVec.ofNat 8 (0x90 + (min (max s.dispatcher.channel.toNat 1) 16 - 1))),
          .write (BitVec.ofNat 8 (min s.dispatcher.param.toNat 127)), .write 0, .flush])

/-- 43_dispatcher_boundary.md R182: while the loop runs iterations only, whatever ticks and resets fall between them, the
indicator equals `state`. -/
def Obligations.IndicatorMirrorsState : Prop :=
  ∀ (n : Nat) (s : State), (∀ e ∈ s.inputs, isRequest e = false) →
    s.dispatcher.indicator = s.button.state →
    ∃ t, core.run n s = .next t ∧ t.dispatcher.indicator = t.button.state

/-- 43_dispatcher_boundary.md R184: a faulted iteration emits nothing, leaves the indicator and the button alone, and
passes the fault on. -/
def Obligations.FaultedIterationEmitsNothing : Prop :=
  ∀ (before after : Nat) (s : State), ∃ t,
    exec (.dispatchIter .fault before after) s = .next t ∧
    t = { s with
      msCount := s.msCount + BitVec.ofNat 32 (before + after)
      results := s.results ++ [.count s.msCount, .poll .fault, .iteration .fault] }

/-! Reset, construction, idle -/

/-- 70_reset_and_hazards.md R210: all seven registers at once, an empty trace, the thresholds as they were, and only the
rst port requests it. -/
def Obligations.ResetSetsAllRegisters : Prop :=
  (∀ s : State, ∃ t, exec .reset s = .next t ∧
    t.msCount = 0 ∧
    t.button = { fsm := .off, state := false, prevState := false, toggle := false, onStart := 0, offStart := 0,
                 confirmMs := s.button.confirmMs, timeoutMs := s.button.timeoutMs } ∧
    t.sinkTrace = []) ∧
  (∀ e : Event, decode e = .ok .reset ↔ e = .rst)

/-- The model's own choices about `RESET` (log 11, log 12): the results start over, the indicator is off, what the agents
do next and the Dispatcher's constants stay. -/
def Obligations.ResetStartsTheObservationsOver : Prop :=
  ∀ s : State, ∃ t, exec .reset s = .next t ∧ t.results = [] ∧ t.inputs = s.inputs ∧
    t.dispatcher = { s.dispatcher with indicator := false }

/-- 10_state.md R35: the values after reset. -/
def Obligations.StateAfterReset : Prop :=
  State.reset.msCount = 0 ∧ State.reset.button.fsm = .off ∧ State.reset.button.state = false ∧
  State.reset.button.prevState = false ∧ State.reset.button.toggle = false ∧
  State.reset.button.onStart = 0 ∧ State.reset.button.offStart = 0

/-- 70_reset_and_hazards.md R213, R214: construction refuses thresholds out of order and otherwise fixes them and resets. -/
def Obligations.ConstructionChecksTheThresholds : Prop :=
  ∀ confirm timeout : Word,
    (timeout < confirm → construct confirm timeout = .refused .thresholdsOutOfOrder) ∧
    (confirm ≤ timeout → ∃ t, construct confirm timeout = .next t ∧
      t.button.confirmMs = confirm ∧ t.button.timeoutMs = timeout ∧ exec .reset t = .next t)

/-- 30_encoding.md R81: `NOP` reads and writes nothing, and `op_sel` 0 requests it. -/
def Obligations.NopChangesNothing : Prop :=
  (∀ s : State, exec .nop s = .next s) ∧
  (∀ e : Event, decode e = .ok .nop ↔ ∃ r, e = .request r ∧ r.opSel = 0x0)

/-! Whole-machine rules -/

/-- 10_state.md R37: which operation writes which state; the registers each operation leaves alone. -/
def Obligations.OperationsWriteOnlyTheirState : Prop :=
  ∀ (i : Instr) (s t : State), exec i s = .next t →
    t.inputs = s.inputs ∧
    (i ≠ .reset → tickCount i = 0 → t.msCount = s.msCount) ∧
    (i ≠ .reset → polled i s = none → t.button = s.button) ∧
    (i ≠ .reset → isEncoderOp i = false → domainOf i ≠ .boundary → t.sinkTrace = s.sinkTrace) ∧
    (i ≠ .reset → domainOf i ≠ .boundary → t.dispatcher = s.dispatcher) ∧
    ((isEncoderOp i = true ∨ i = .nop ∨ i = .tick) → t.results = s.results)

/-- 10_state.md R28, R29: no operation writes the constants of the instance, nor the Dispatcher's (R185). -/
def Obligations.ConstantsAreNeverWritten : Prop :=
  ∀ (is : List Instr) (s : State), ∃ t, execAll is s = .next t ∧
    t.button.confirmMs = s.button.confirmMs ∧ t.button.timeoutMs = s.button.timeoutMs ∧
    t.dispatcher.channel = s.dispatcher.channel ∧ t.dispatcher.param = s.dispatcher.param ∧
    t.dispatcher.valueOn = s.dispatcher.valueOn

/-- 10_state.md R38, 60_exceptions.md R199: the interrupt domain changes the counter and nothing else, the loop domain
never changes it, and only the tick port belongs to the interrupt domain. -/
def Obligations.DomainsShareOnlyTheCounter : Prop :=
  (∀ (i : Instr) (s : State), ∃ t, exec i s = .next t ∧
    (domainOf i = .interrupt → t = { s with msCount := t.msCount }) ∧
    (domainOf i = .loop → t.msCount = s.msCount)) ∧
  (∀ (e : Event) (i : Instr), decode e = .ok i → (domainOf i = .interrupt ↔ e = .tick))

/-- 10_state.md R37: a poll's outcome depends on the button, its sample and its time alone; it does not read `ms_count`,
the trace or anything else. -/
def Obligations.PollDependsOnTheButtonOnly : Prop :=
  ∀ (sample : Sample) (now : Word) (s s' : State), s.button = s'.button →
    ∃ t t', exec (.poll sample now) s = .next t ∧ exec (.poll sample now) s' = .next t' ∧
      t.button = t'.button ∧ pollResult t = pollResult t'

/-- 60_exceptions.md R196: in the cycle-level rendering `RESET` wins over everything and a `READ` gives the value before
the increment of its cycle; a poll and a tick of one cycle do not disturb each other. -/
def Obligations.SimultaneousEventsInOneCycle : Prop :=
  ∀ (x : CycleInputs) (s : State),
    (x.rst = true → cycle x s = exec .reset s) ∧
    (x.rst = false → x.tick = true → x.request.opSel = 0x1 → ∃ t, cycle x s = .next t ∧
      countOut t = some s.msCount ∧ t.msCount = s.msCount + 1) ∧
    (x.rst = false → x.tick = true → x.request.opSel = 0x2 → ∃ t u,
      cycle x s = .next t ∧ exec (.poll x.request.sample x.request.now) s = .next u ∧
      t = { u with msCount := u.msCount + 1 })

/-- 10_state.md R34: `fsm` and `state` are coupled after any number of steps from reset, whatever the agents do. -/
def Obligations.StateIsCoupledToFsm : Prop :=
  ∀ (n : Nat) (s t : State), s.button = Button.atReset s.button.confirmMs s.button.timeoutMs →
    core.run n s = .next t →
      ((t.button.fsm = .off ∨ t.button.fsm = .debouncingOn) → t.button.state = false) ∧
      ((t.button.fsm = .on ∨ t.button.fsm = .debouncingOff) → t.button.state = true)

/-- The coupling (10_state.md R34), the order of the thresholds (R29), the Dispatcher's legal value and the well-formed
trace are kept by every step, from every state that meets them. -/
def Obligations.EveryStepKeepsTheInvariant : Prop :=
  ∀ s t : State, MachineInv s → step s = .next t → MachineInv t

/-- The invariant holds after reset and after every accepted construction. That the instance after reset has ordered
thresholds rests on the model's bound of `CONFIRM_MS` (log 5), from 70_reset_and_hazards.md R214. -/
def Obligations.ResetMeetsTheInvariant : Prop :=
  MachineInv State.reset ∧ ∀ (confirm timeout : Word) (t : State), construct confirm timeout = .next t → MachineInv t
end

