-- ==== Sys2Proof/Laws/State.lean ====
section
/-! SUPPORT. One lemma per field per update of State and of Button, true by definition, so that no later proof unfolds a record update. -/

namespace Sys2Proof.Machine

@[simp] theorem setCount_msCount (w : Word) (s : State) : (setCount w s).msCount = w := rfl
@[simp] theorem setCount_button (w : Word) (s : State) : (setCount w s).button = s.button := rfl
@[simp] theorem setCount_dispatcher (w : Word) (s : State) : (setCount w s).dispatcher = s.dispatcher := rfl
@[simp] theorem setCount_sinkTrace (w : Word) (s : State) : (setCount w s).sinkTrace = s.sinkTrace := rfl
@[simp] theorem setCount_results (w : Word) (s : State) : (setCount w s).results = s.results := rfl
@[simp] theorem setCount_inputs (w : Word) (s : State) : (setCount w s).inputs = s.inputs := rfl

@[simp] theorem setButton_msCount (b : Button) (s : State) : (setButton b s).msCount = s.msCount := rfl
@[simp] theorem setButton_button (b : Button) (s : State) : (setButton b s).button = b := rfl
@[simp] theorem setButton_dispatcher (b : Button) (s : State) : (setButton b s).dispatcher = s.dispatcher := rfl
@[simp] theorem setButton_sinkTrace (b : Button) (s : State) : (setButton b s).sinkTrace = s.sinkTrace := rfl
@[simp] theorem setButton_results (b : Button) (s : State) : (setButton b s).results = s.results := rfl
@[simp] theorem setButton_inputs (b : Button) (s : State) : (setButton b s).inputs = s.inputs := rfl

@[simp] theorem respond_msCount (r : Response) (s : State) : (respond r s).msCount = s.msCount := rfl
@[simp] theorem respond_button (r : Response) (s : State) : (respond r s).button = s.button := rfl
@[simp] theorem respond_dispatcher (r : Response) (s : State) : (respond r s).dispatcher = s.dispatcher := rfl
@[simp] theorem respond_sinkTrace (r : Response) (s : State) : (respond r s).sinkTrace = s.sinkTrace := rfl
@[simp] theorem respond_results (r : Response) (s : State) : (respond r s).results = s.results ++ [r] := rfl
@[simp] theorem respond_inputs (r : Response) (s : State) : (respond r s).inputs = s.inputs := rfl

@[simp] theorem sinkWrite_msCount (b : Byte) (s : State) : (sinkWrite b s).msCount = s.msCount := rfl
@[simp] theorem sinkWrite_button (b : Byte) (s : State) : (sinkWrite b s).button = s.button := rfl
@[simp] theorem sinkWrite_dispatcher (b : Byte) (s : State) : (sinkWrite b s).dispatcher = s.dispatcher := rfl
@[simp] theorem sinkWrite_sinkTrace (b : Byte) (s : State) : (sinkWrite b s).sinkTrace = s.sinkTrace ++ [.write b] := rfl
@[simp] theorem sinkWrite_results (b : Byte) (s : State) : (sinkWrite b s).results = s.results := rfl
@[simp] theorem sinkWrite_inputs (b : Byte) (s : State) : (sinkWrite b s).inputs = s.inputs := rfl

@[simp] theorem sinkFlush_msCount (s : State) : (sinkFlush s).msCount = s.msCount := rfl
@[simp] theorem sinkFlush_button (s : State) : (sinkFlush s).button = s.button := rfl
@[simp] theorem sinkFlush_dispatcher (s : State) : (sinkFlush s).dispatcher = s.dispatcher := rfl
@[simp] theorem sinkFlush_sinkTrace (s : State) : (sinkFlush s).sinkTrace = s.sinkTrace ++ [.flush] := rfl
@[simp] theorem sinkFlush_results (s : State) : (sinkFlush s).results = s.results := rfl
@[simp] theorem sinkFlush_inputs (s : State) : (sinkFlush s).inputs = s.inputs := rfl

@[simp] theorem tickOnce_msCount (s : State) : (tickOnce s).msCount = s.msCount + 1 := rfl
@[simp] theorem tickOnce_button (s : State) : (tickOnce s).button = s.button := rfl
@[simp] theorem tickOnce_dispatcher (s : State) : (tickOnce s).dispatcher = s.dispatcher := rfl
@[simp] theorem tickOnce_sinkTrace (s : State) : (tickOnce s).sinkTrace = s.sinkTrace := rfl
@[simp] theorem tickOnce_results (s : State) : (tickOnce s).results = s.results := rfl
@[simp] theorem tickOnce_inputs (s : State) : (tickOnce s).inputs = s.inputs := rfl

@[simp] theorem readCount_msCount (s : State) : (readCount s).msCount = s.msCount := rfl
@[simp] theorem readCount_button (s : State) : (readCount s).button = s.button := rfl
@[simp] theorem readCount_dispatcher (s : State) : (readCount s).dispatcher = s.dispatcher := rfl
@[simp] theorem readCount_sinkTrace (s : State) : (readCount s).sinkTrace = s.sinkTrace := rfl
@[simp] theorem readCount_results (s : State) : (readCount s).results = s.results ++ [.count s.msCount] := rfl
@[simp] theorem readCount_inputs (s : State) : (readCount s).inputs = s.inputs := rfl

@[simp] theorem raiseInputReadFault_msCount (s : State) : (raiseInputReadFault s).msCount = s.msCount := rfl
@[simp] theorem raiseInputReadFault_button (s : State) : (raiseInputReadFault s).button = s.button := rfl
@[simp] theorem raiseInputReadFault_dispatcher (s : State) : (raiseInputReadFault s).dispatcher = s.dispatcher := rfl
@[simp] theorem raiseInputReadFault_sinkTrace (s : State) : (raiseInputReadFault s).sinkTrace = s.sinkTrace := rfl
@[simp] theorem raiseInputReadFault_results (s : State) : (raiseInputReadFault s).results = s.results ++ [.poll .fault] := rfl
@[simp] theorem raiseInputReadFault_inputs (s : State) : (raiseInputReadFault s).inputs = s.inputs := rfl

@[simp] theorem mirrorIndicator_msCount (s : State) : (mirrorIndicator s).msCount = s.msCount := rfl
@[simp] theorem mirrorIndicator_button (s : State) : (mirrorIndicator s).button = s.button := rfl
@[simp] theorem mirrorIndicator_dispatcher (s : State) : (mirrorIndicator s).dispatcher = { s.dispatcher with indicator := s.button.state } := rfl
@[simp] theorem mirrorIndicator_sinkTrace (s : State) : (mirrorIndicator s).sinkTrace = s.sinkTrace := rfl
@[simp] theorem mirrorIndicator_results (s : State) : (mirrorIndicator s).results = s.results := rfl
@[simp] theorem mirrorIndicator_inputs (s : State) : (mirrorIndicator s).inputs = s.inputs := rfl

@[simp] theorem pushEvent_msCount (e : Event) (s : State) : (pushEvent e s).msCount = s.msCount := rfl
@[simp] theorem pushEvent_button (e : Event) (s : State) : (pushEvent e s).button = s.button := rfl
@[simp] theorem pushEvent_dispatcher (e : Event) (s : State) : (pushEvent e s).dispatcher = s.dispatcher := rfl
@[simp] theorem pushEvent_sinkTrace (e : Event) (s : State) : (pushEvent e s).sinkTrace = s.sinkTrace := rfl
@[simp] theorem pushEvent_results (e : Event) (s : State) : (pushEvent e s).results = s.results := rfl
@[simp] theorem pushEvent_inputs (e : Event) (s : State) : (pushEvent e s).inputs = e :: s.inputs := rfl

@[simp] theorem resetBlock_msCount (s : State) : (resetBlock s).msCount = 0 := rfl
@[simp] theorem resetBlock_button (s : State) : (resetBlock s).button = Button.atReset s.button.confirmMs s.button.timeoutMs := rfl
@[simp] theorem resetBlock_dispatcher (s : State) : (resetBlock s).dispatcher = Dispatcher.atReset s.dispatcher.channel s.dispatcher.param s.dispatcher.valueOn := rfl
@[simp] theorem resetBlock_sinkTrace (s : State) : (resetBlock s).sinkTrace = [] := rfl
@[simp] theorem resetBlock_results (s : State) : (resetBlock s).results = [] := rfl
@[simp] theorem resetBlock_inputs (s : State) : (resetBlock s).inputs = s.inputs := rfl

@[simp] theorem snapshot_fsm (b : Button) : (snapshot b).fsm = b.fsm := rfl
@[simp] theorem snapshot_state (b : Button) : (snapshot b).state = b.state := rfl
@[simp] theorem snapshot_prevState (b : Button) : (snapshot b).prevState = b.state := rfl
@[simp] theorem snapshot_toggle (b : Button) : (snapshot b).toggle = b.toggle := rfl
@[simp] theorem snapshot_onStart (b : Button) : (snapshot b).onStart = b.onStart := rfl
@[simp] theorem snapshot_offStart (b : Button) : (snapshot b).offStart = b.offStart := rfl
@[simp] theorem snapshot_confirmMs (b : Button) : (snapshot b).confirmMs = b.confirmMs := rfl
@[simp] theorem snapshot_timeoutMs (b : Button) : (snapshot b).timeoutMs = b.timeoutMs := rfl

@[simp] theorem beginActivation_fsm (now : Word) (b : Button) : (beginActivation now b).fsm = .debouncingOn := rfl
@[simp] theorem beginActivation_state (now : Word) (b : Button) : (beginActivation now b).state = b.state := rfl
@[simp] theorem beginActivation_prevState (now : Word) (b : Button) : (beginActivation now b).prevState = b.prevState := rfl
@[simp] theorem beginActivation_toggle (now : Word) (b : Button) : (beginActivation now b).toggle = b.toggle := rfl
@[simp] theorem beginActivation_onStart (now : Word) (b : Button) : (beginActivation now b).onStart = now := rfl
@[simp] theorem beginActivation_offStart (now : Word) (b : Button) : (beginActivation now b).offStart = b.offStart := rfl
@[simp] theorem beginActivation_confirmMs (now : Word) (b : Button) : (beginActivation now b).confirmMs = b.confirmMs := rfl
@[simp] theorem beginActivation_timeoutMs (now : Word) (b : Button) : (beginActivation now b).timeoutMs = b.timeoutMs := rfl

@[simp] theorem confirmActivation_fsm (b : Button) : (confirmActivation b).fsm = .on := rfl
@[simp] theorem confirmActivation_state (b : Button) : (confirmActivation b).state = true := rfl
@[simp] theorem confirmActivation_prevState (b : Button) : (confirmActivation b).prevState = b.prevState := rfl
@[simp] theorem confirmActivation_toggle (b : Button) : (confirmActivation b).toggle = !b.toggle := rfl
@[simp] theorem confirmActivation_onStart (b : Button) : (confirmActivation b).onStart = b.onStart := rfl
@[simp] theorem confirmActivation_offStart (b : Button) : (confirmActivation b).offStart = b.offStart := rfl
@[simp] theorem confirmActivation_confirmMs (b : Button) : (confirmActivation b).confirmMs = b.confirmMs := rfl
@[simp] theorem confirmActivation_timeoutMs (b : Button) : (confirmActivation b).timeoutMs = b.timeoutMs := rfl

@[simp] theorem rejectActivation_fsm (b : Button) : (rejectActivation b).fsm = .off := rfl
@[simp] theorem rejectActivation_state (b : Button) : (rejectActivation b).state = b.state := rfl
@[simp] theorem rejectActivation_prevState (b : Button) : (rejectActivation b).prevState = b.prevState := rfl
@[simp] theorem rejectActivation_toggle (b : Button) : (rejectActivation b).toggle = b.toggle := rfl
@[simp] theorem rejectActivation_onStart (b : Button) : (rejectActivation b).onStart = b.onStart := rfl
@[simp] theorem rejectActivation_offStart (b : Button) : (rejectActivation b).offStart = b.offStart := rfl
@[simp] theorem rejectActivation_confirmMs (b : Button) : (rejectActivation b).confirmMs = b.confirmMs := rfl
@[simp] theorem rejectActivation_timeoutMs (b : Button) : (rejectActivation b).timeoutMs = b.timeoutMs := rfl

@[simp] theorem beginDeactivation_fsm (now : Word) (b : Button) : (beginDeactivation now b).fsm = .debouncingOff := rfl
@[simp] theorem beginDeactivation_state (now : Word) (b : Button) : (beginDeactivation now b).state = b.state := rfl
@[simp] theorem beginDeactivation_prevState (now : Word) (b : Button) : (beginDeactivation now b).prevState = b.prevState := rfl
@[simp] theorem beginDeactivation_toggle (now : Word) (b : Button) : (beginDeactivation now b).toggle = b.toggle := rfl
@[simp] theorem beginDeactivation_onStart (now : Word) (b : Button) : (beginDeactivation now b).onStart = b.onStart := rfl
@[simp] theorem beginDeactivation_offStart (now : Word) (b : Button) : (beginDeactivation now b).offStart = now := rfl
@[simp] theorem beginDeactivation_confirmMs (now : Word) (b : Button) : (beginDeactivation now b).confirmMs = b.confirmMs := rfl
@[simp] theorem beginDeactivation_timeoutMs (now : Word) (b : Button) : (beginDeactivation now b).timeoutMs = b.timeoutMs := rfl

@[simp] theorem confirmDeactivation_fsm (b : Button) : (confirmDeactivation b).fsm = .off := rfl
@[simp] theorem confirmDeactivation_state (b : Button) : (confirmDeactivation b).state = false := rfl
@[simp] theorem confirmDeactivation_prevState (b : Button) : (confirmDeactivation b).prevState = b.prevState := rfl
@[simp] theorem confirmDeactivation_toggle (b : Button) : (confirmDeactivation b).toggle = b.toggle := rfl
@[simp] theorem confirmDeactivation_onStart (b : Button) : (confirmDeactivation b).onStart = b.onStart := rfl
@[simp] theorem confirmDeactivation_offStart (b : Button) : (confirmDeactivation b).offStart = b.offStart := rfl
@[simp] theorem confirmDeactivation_confirmMs (b : Button) : (confirmDeactivation b).confirmMs = b.confirmMs := rfl
@[simp] theorem confirmDeactivation_timeoutMs (b : Button) : (confirmDeactivation b).timeoutMs = b.timeoutMs := rfl

@[simp] theorem escapeDeactivation_fsm (b : Button) : (escapeDeactivation b).fsm = .on := rfl
@[simp] theorem escapeDeactivation_state (b : Button) : (escapeDeactivation b).state = b.state := rfl
@[simp] theorem escapeDeactivation_prevState (b : Button) : (escapeDeactivation b).prevState = b.prevState := rfl
@[simp] theorem escapeDeactivation_toggle (b : Button) : (escapeDeactivation b).toggle = b.toggle := rfl
@[simp] theorem escapeDeactivation_onStart (b : Button) : (escapeDeactivation b).onStart = b.onStart := rfl
@[simp] theorem escapeDeactivation_offStart (b : Button) : (escapeDeactivation b).offStart = b.offStart := rfl
@[simp] theorem escapeDeactivation_confirmMs (b : Button) : (escapeDeactivation b).confirmMs = b.confirmMs := rfl
@[simp] theorem escapeDeactivation_timeoutMs (b : Button) : (escapeDeactivation b).timeoutMs = b.timeoutMs := rfl

@[simp] theorem atReset_fsm (confirm timeout : Word) : (Button.atReset confirm timeout).fsm = .off := rfl
@[simp] theorem atReset_state (confirm timeout : Word) : (Button.atReset confirm timeout).state = false := rfl
@[simp] theorem atReset_prevState (confirm timeout : Word) : (Button.atReset confirm timeout).prevState = false := rfl
@[simp] theorem atReset_toggle (confirm timeout : Word) : (Button.atReset confirm timeout).toggle = false := rfl
@[simp] theorem atReset_onStart (confirm timeout : Word) : (Button.atReset confirm timeout).onStart = 0 := rfl
@[simp] theorem atReset_offStart (confirm timeout : Word) : (Button.atReset confirm timeout).offStart = 0 := rfl
@[simp] theorem atReset_confirmMs (confirm timeout : Word) : (Button.atReset confirm timeout).confirmMs = confirm := rfl
@[simp] theorem atReset_timeoutMs (confirm timeout : Word) : (Button.atReset confirm timeout).timeoutMs = timeout := rfl

@[simp] theorem dispatcherAtReset_indicator (c p v : Byte) : (Dispatcher.atReset c p v).indicator = false := rfl
@[simp] theorem dispatcherAtReset_channel (c p v : Byte) : (Dispatcher.atReset c p v).channel = c := rfl
@[simp] theorem dispatcherAtReset_param (c p v : Byte) : (Dispatcher.atReset c p v).param = p := rfl
@[simp] theorem dispatcherAtReset_valueOn (c p v : Byte) : (Dispatcher.atReset c p v).valueOn = v := rfl

end Sys2Proof.Machine
end

