-- ==== Sys2Proof/Laws/Button.lean ====
section
/-! SUPPORT. What one poll does to the button, arm by arm, and the arithmetic of the elapsed time and of the clamps. -/

namespace Sys2Proof.Machine

theorem exceeds_iff (e threshold : Word) : exceeds e threshold = true ↔ threshold.toNat < e.toNat := by
  simp [exceeds, BitVec.lt_def]

theorem not_exceeds_iff (e threshold : Word) : exceeds e threshold = false ↔ e.toNat ≤ threshold.toNat := by
  simp [exceeds, BitVec.lt_def]

/-- No time has passed between a reading and itself. -/
theorem elapsed_self (t : Word) : elapsed t t = 0 := by
  simp [elapsed, elapsedWith, elapsedExact]

theorem elapsedExact_lt (t t0 : Word) : elapsedExact 0 t t0 < 2 ^ 32 := by
  have := t.isLt
  have := t0.isLt
  simp only [elapsedExact, u32Max]
  split <;> omega

/-- The elapsed time as an exact number. -/
theorem elapsed_toNat (t t0 : Word) : (elapsed t t0).toNat = elapsedExact 0 t t0 := by
  have h := elapsedExact_lt t t0
  simp only [elapsed, elapsedWith, Config.wrapAdj, BitVec.toNat_ofNat]
  exact Nat.mod_eq_of_lt h

/-- The arm of `Off`. -/
theorem pollButton_off (raw : Bool) (now : Word) (b : Button) (h : b.fsm = .off) :
    pollButton raw now b = if raw then beginActivation now (snapshot b) else snapshot b := by
  simp [pollButton, pollArm, h]

/-- The arm of `DebouncingOn`. -/
theorem pollButton_debouncingOn (raw : Bool) (now : Word) (b : Button) (h : b.fsm = .debouncingOn) :
    pollButton raw now b
      = if raw && exceeds (elapsed now b.onStart) b.confirmMs then confirmActivation (snapshot b)
        else if !raw && exceeds (elapsed now b.onStart) b.timeoutMs then rejectActivation (snapshot b)
        else snapshot b := by
  simp [pollButton, pollArm, h]

/-- The arm of `On`. -/
theorem pollButton_on (raw : Bool) (now : Word) (b : Button) (h : b.fsm = .on) :
    pollButton raw now b = if raw then snapshot b else beginDeactivation now (snapshot b) := by
  simp [pollButton, pollArm, h]

/-- The arm of `DebouncingOff`. -/
theorem pollButton_debouncingOff (raw : Bool) (now : Word) (b : Button) (h : b.fsm = .debouncingOff) :
    pollButton raw now b
      = if !raw && exceeds (elapsed now b.offStart) b.confirmMs then confirmDeactivation (snapshot b)
        else if raw && exceeds (elapsed now b.offStart) b.timeoutMs then escapeDeactivation (snapshot b)
        else snapshot b := by
  simp [pollButton, pollArm, h]

/-- A poll writes neither threshold and takes its snapshot in every arm. -/
theorem pollButton_always (raw : Bool) (now : Word) (b : Button) :
    (pollButton raw now b).confirmMs = b.confirmMs ∧ (pollButton raw now b).timeoutMs = b.timeoutMs
      ∧ (pollButton raw now b).prevState = b.state := by
  cases h : b.fsm
  · rw [pollButton_off _ _ _ h]; split <;> simp
  · rw [pollButton_debouncingOn _ _ _ h]; split <;> [skip; split] <;> simp
  · rw [pollButton_debouncingOff _ _ _ h]; split <;> [skip; split] <;> simp
  · rw [pollButton_on _ _ _ h]; split <;> simp

theorem clamp7_byte (v : Byte) : (dataByte v).toNat = min v.toNat 127 := by
  have := v.isLt
  simp only [dataByte, clamp7, BitVec.toNat_ofNat]
  omega

theorem channelNibble_toNat (c : Byte) : (channelNibble c).toNat = min (max c.toNat 1) 16 - 1 := by
  have := c.isLt
  simp only [channelNibble, chan, BitVec.toNat_ofNat]
  omega

theorem bendValue_toNat (v : Half) : (bendValue v).toNat = min v.toNat 16383 := by
  have := v.isLt
  simp only [bendValue, clamp14, BitVec.toNat_ofNat]
  omega

end Sys2Proof.Machine
end

