-- ==== Sys2Proof/Laws/Encoder.lean ====
section
/-! SUPPORT. The bytes of a message as numbers, and what the decoder of messages reads from them. -/

namespace Sys2Proof.Machine

/-- Base and nibble share no bit, so OR is addition (40_time_source.md R107). -/
theorem statusByte_eq (base c : Byte) (h : base ∈ [0x80, 0x90, 0xB0, 0xD0, 0xE0]) :
    statusByte base c = BitVec.ofNat 8 (base.toNat + (min (max c.toNat 1) 16 - 1)) := by
  generalize hn : min (max c.toNat 1) 16 - 1 = n
  have hc : channelNibble c = BitVec.ofNat 8 n := by
    apply BitVec.eq_of_toNat_eq
    rw [channelNibble_toNat, BitVec.toNat_ofNat]
    omega
  have hlt : n < 16 := by omega
  rw [statusByte, hc]
  clear hn hc
  revert h
  simp only [List.mem_cons, List.not_mem_nil, or_false]
  rintro (rfl | rfl | rfl | rfl | rfl) <;> (interval_cases n <;> rfl)

theorem dataByte_eq (v : Byte) : dataByte v = BitVec.ofNat 8 (min v.toNat 127) := by
  apply BitVec.eq_of_toNat_eq
  rw [clamp7_byte, BitVec.toNat_ofNat]
  omega

theorem dataByte_msb (v : Byte) : (dataByte v).msb = false := by
  rw [BitVec.msb_eq_false_iff_two_mul_lt, clamp7_byte]
  omega

theorem bendLow_toNat (b : BitVec 14) : (bendLow b).toNat = b.toNat % 128 := by
  have h : (127 : BitVec 14).toNat = 2 ^ 7 - 1 := rfl
  simp only [bendLow, BitVec.toNat_setWidth, BitVec.toNat_and]
  rw [h, Nat.and_two_pow_sub_one_eq_mod]
  omega

theorem bendHigh_toNat (b : BitVec 14) : (bendHigh b).toNat = b.toNat / 128 := by
  have := b.isLt
  have h : (127 : BitVec 14).toNat = 2 ^ 7 - 1 := rfl
  simp only [bendHigh, BitVec.toNat_setWidth, BitVec.toNat_and, BitVec.toNat_ushiftRight]
  rw [h, Nat.and_two_pow_sub_one_eq_mod, Nat.shiftRight_eq_div_pow]
  omega

theorem joinBend_toNat (lo hi : Byte) (hlo : lo.toNat < 128) :
    (joinBend lo hi).toNat = 128 * hi.toNat + lo.toNat := by
  have := hi.isLt
  have e1 : (hi.toNat % 2 ^ 16) <<< 7 % 2 ^ 16 = 2 ^ 7 * hi.toNat := by
    rw [Nat.shiftLeft_eq]
    omega
  have e2 : lo.toNat % 2 ^ 16 = lo.toNat := by omega
  simp only [joinBend, BitVec.toNat_or, BitVec.toNat_shiftLeft, BitVec.toNat_setWidth]
  rw [e1, e2, ← Nat.two_pow_add_eq_or_of_lt hlo]

theorem statusByte_fields (base c : Byte) (h : base ∈ [0x80, 0x90, 0xB0, 0xD0, 0xE0]) :
    highNibble (statusByte base c) = highNibble base
      ∧ channelOf (statusByte base c) = clampInputs.inChannel c ∧ (statusByte base c).msb = true := by
  rw [statusByte_eq base c h, clampInputs.inChannel]
  generalize hm : min (max c.toNat 1) 16 = m
  have hlo : 1 ≤ m := by omega
  have hhi : m ≤ 16 := by omega
  clear hm
  revert h
  simp only [List.mem_cons, List.not_mem_nil, or_false]
  rintro (rfl | rfl | rfl | rfl | rfl) <;> (interval_cases m <;> decide)

end Sys2Proof.Machine
end

