-- ==== Sys2Proof/Laws/Ops.lean ====
section
/-! SUPPORT. One lemma per shared operation that says everything it does, one per arm of `exec`, and the inversion of `step`. -/

namespace Sys2Proof.Machine

/-- `TICK*k` in closed form. -/
theorem ticks_eq (k : Nat) (s : State) : ticks k s = setCount (s.msCount + BitVec.ofNat 32 k) s := by
  induction k generalizing s with
  | zero => simp [ticks, setCount]
  | succ k ih =>
      have h : s.msCount + 1#32 + BitVec.ofNat 32 k = s.msCount + BitVec.ofNat 32 (k + 1) := by
        apply BitVec.eq_of_toNat_eq
        simp only [BitVec.toNat_add, BitVec.toNat_ofNat]
        omega
      rw [ticks, ih, ← h]
      rfl

/-- A message's bytes are appended in order and nothing else changes. -/
theorem sinkWrites_eq (bytes : List Byte) (s : State) :
    sinkWrites bytes s = { s with sinkTrace := s.sinkTrace ++ bytes.map SinkEvent.write } := by
  induction bytes generalizing s with
  | nil => simp [sinkWrites]
  | cons b rest ih => rw [sinkWrites, ih]; simp [sinkWrite]

/-- A message is its bytes and then one flush, and nothing else changes. -/
theorem sendMessage_eq (bytes : List Byte) (s : State) :
    sendMessage bytes s = { s with sinkTrace := s.sinkTrace ++ framed bytes } := by
  simp [sendMessage, sinkWrites_eq, sinkFlush, framed]

/-- A poll with a readable sample: the button takes one poll and `Done` is returned. -/
theorem poll_ok (raw : Bool) (now : Word) (s : State) :
    poll (.ok raw) now s
      = { s with button := pollButton raw now s.button, results := s.results ++ [.poll .done] } := rfl

/-- A poll with a faulted sample: `Fault` is returned and nothing else changes. -/
theorem poll_fault (now : Word) (s : State) :
    poll .fault now s = { s with results := s.results ++ [.poll .fault] } := rfl

/-- Everything the part of an iteration up to its gaps does: the counter has advanced by the ticks, the value read has
been returned and handed to the poll. -/
theorem pollNow_eq (sample : Sample) (k : Nat) (s : State) :
    pollNow sample k s = poll sample s.msCount (setCount (s.msCount + BitVec.ofNat 32 k) (readCount s)) := by
  simp [pollNow, ticks_eq, counterRead]

theorem exec_tick (s : State) : exec .tick s = .next (tickOnce s) := rfl

theorem exec_reset (s : State) : exec .reset s = .next (resetBlock s) := rfl

theorem exec_nop (s : State) : exec .nop s = .next s := rfl

theorem exec_read (s : State) : exec .read s = .next (readCount s) := rfl

theorem exec_poll (sample : Sample) (now : Word) (s : State) :
    exec (.poll sample now) s = .next (poll sample now s) := rfl

theorem exec_elapsed (t t0 : Word) (s : State) :
    exec (.elapsed t t0) s = .next (respond (.elapsed (elapsed t t0)) s) := rfl

theorem exec_dispatchIter (sample : Sample) (before after : Nat) (s : State) :
    exec (.dispatchIter sample before after) s = .next (dispatchIter sample before after s) := rfl

/-- Every encoder operation sends its message and does nothing else. -/
theorem exec_encoder (i : Instr) (s : State) (h : isEncoderOp i = true) :
    exec i s = .next (sendMessage (messageOf i) s) := by
  cases i <;> first | rfl | simp [isEncoderOp] at h

/-- A poll, whatever its sample, leaves the counter, the trace, the Dispatcher and the inputs alone. -/
theorem poll_frame (sample : Sample) (now : Word) (s : State) :
    (poll sample now s).msCount = s.msCount ∧ (poll sample now s).sinkTrace = s.sinkTrace
      ∧ (poll sample now s).dispatcher = s.dispatcher ∧ (poll sample now s).inputs = s.inputs := by
  cases sample <;> simp [poll]

/-- The message of an edge leaves everything but the trace and the indicator alone. -/
theorem emitEdge_frame (s : State) :
    (emitEdge s).msCount = s.msCount ∧ (emitEdge s).button = s.button ∧ (emitEdge s).results = s.results
      ∧ (emitEdge s).inputs = s.inputs ∧ (emitEdge s).dispatcher.channel = s.dispatcher.channel
      ∧ (emitEdge s).dispatcher.param = s.dispatcher.param
      ∧ (emitEdge s).dispatcher.valueOn = s.dispatcher.valueOn := by
  unfold emitEdge
  split <;> simp [sendMessage_eq]

/-- What an iteration does to the counter, the button and the results, and what it leaves alone. -/
theorem dispatchIter_frame (sample : Sample) (before after : Nat) (s : State) :
    (dispatchIter sample before after s).msCount = s.msCount + BitVec.ofNat 32 (before + after)
      ∧ (dispatchIter sample before after s).button = (poll sample s.msCount s).button
      ∧ (dispatchIter sample before after s).inputs = s.inputs
      ∧ (dispatchIter sample before after s).results
          = s.results ++ [.count s.msCount, .poll (resultOfSample sample), .iteration (resultOfSample sample)]
      ∧ (dispatchIter sample before after s).dispatcher.channel = s.dispatcher.channel
      ∧ (dispatchIter sample before after s).dispatcher.param = s.dispatcher.param
      ∧ (dispatchIter sample before after s).dispatcher.valueOn = s.dispatcher.valueOn := by
  cases sample <;>
    simp [dispatchIter, resultOfSample, finishIteration, pollNow_eq, ticks_eq, poll, emitEdge_frame,
      BitVec.add_assoc, BitVec.ofNat_add]

/-- No operation stops the machine. -/
theorem exec_next (i : Instr) (s : State) : ∃ t, exec i s = .next t := by
  cases i <;> exact ⟨_, rfl⟩

/-- What every operation but `RESET` does to the button: the poll it performs, if it performs one. -/
theorem button_after {i : Instr} {s t : State} (hi : i ≠ .reset) (h : exec i s = .next t) :
    t.button = match polled i s with
      | some (raw, now) => pollButton raw now s.button
      | none => s.button := by
  cases i with
  | reset => exact absurd rfl hi
  | poll sample now => cases sample <;> cases h <;> rfl
  | dispatchIter sample before after =>
      cases h
      cases sample <;> exact (dispatchIter_frame ..).2.1
  | tick => cases h; rfl
  | nop => cases h; rfl
  | read => cases h; rfl
  | elapsed t t0 => cases h; rfl
  | _ => rw [exec_encoder _ _ rfl] at h; cases h; simp [sendMessage_eq, polled]

/-- What every operation but `RESET` does to the counter. -/
theorem count_after {i : Instr} {s t : State} (hi : i ≠ .reset) (h : exec i s = .next t) :
    t.msCount = s.msCount + BitVec.ofNat 32 (tickCount i) := by
  cases i with
  | reset => exact absurd rfl hi
  | poll sample now => cases h; simp [tickCount, poll_frame]
  | dispatchIter sample before after => cases h; simp [tickCount, dispatchIter_frame]
  | tick => cases h; simp [tickCount]
  | nop => cases h; simp [tickCount]
  | read => cases h; simp [tickCount]
  | elapsed t t0 => cases h; simp [tickCount]
  | _ => rw [exec_encoder _ _ rfl] at h; cases h; simp [sendMessage_eq, tickCount]

/-- What a step that goes on has done: waited, or executed the operation of the next event. -/
theorem step_cases {s t : State} (h : step s = .next t) :
    (s.inputs = [] ∧ t = s) ∨
      ∃ e rest i, s.inputs = e :: rest ∧ decode e = .ok i ∧ exec i { s with inputs := rest } = .next t := by
  obtain ⟨c, b, d, tr, rs, ins⟩ := s
  cases ins with
  | nil => simp only [step, fetch, Host.Outcome.next.injEq] at h; exact .inl ⟨rfl, h.symm⟩
  | cons e rest =>
      simp only [step, fetch] at h
      split at h
      · exact .inr ⟨e, rest, _, rfl, ‹_›, h⟩
      · simp at h

/-- A sequence of operations always goes on. -/
theorem execAll_next (is : List Instr) (s : State) : ∃ t, execAll is s = .next t := by
  induction is generalizing s with
  | nil => exact ⟨s, rfl⟩
  | cons i rest ih =>
      obtain ⟨u, hu⟩ := exec_next i s
      simpa [execAll, hu] using ih u

/-- Polls act on the button alone, one after the other. -/
theorem execAll_pollsOf (ps : List (Bool × Word)) (s : State) :
    ∃ t, execAll (pollsOf ps) s = .next t
      ∧ t.button = ps.foldl (fun b p => pollButton p.1 p.2 b) s.button := by
  induction ps generalizing s with
  | nil => exact ⟨s, rfl, rfl⟩
  | cons p rest ih => exact ih (poll (.ok p.1) p.2 s)

/-- A sequence of operations in two parts. -/
theorem execAll_append (is js : List Instr) (s t : State) (h : execAll is s = .next t) :
    execAll (is ++ js) s = execAll js t := by
  induction is generalizing s with
  | nil => simp only [execAll, Host.Outcome.next.injEq] at h; simp [h]
  | cons i rest ih =>
      simp only [List.cons_append, execAll] at h ⊢
      split at h
      · exact ih _ h
      · simp at h
      · simp at h

end Sys2Proof.Machine
end

