-- ==== Sys2Proof/Laws/PerInstr.lean ====
section
/-! SUPPORT. A fact about every instruction as syntax: it has an event exactly if it is well formed. -/

namespace Sys2Proof.Laws.Encodable

/-- An operation that can be requested has an event, and the helper `ELAPSED` has none. -/
def Statement (i : Instr) : Prop := (encode i).isSome = i.wellFormed

theorem tick : Statement .tick := rfl

theorem reset : Statement .reset := rfl

theorem nop : Statement .nop := rfl

theorem read : Statement .read := rfl

theorem poll (sample : Sample) (now : Word) : Statement (.poll sample now) := rfl

theorem deactivate (c p v : Byte) : Statement (.deactivate c p v) := rfl

theorem activate (c p v : Byte) : Statement (.activate c p v) := rfl

theorem paramChange (c p v : Byte) : Statement (.paramChange c p v) := rfl

theorem pressure (c v : Byte) : Statement (.pressure c v) := rfl

theorem bend (c : Byte) (v : Half) : Statement (.bend c v) := rfl

theorem elapsed (t t0 : Word) : Statement (.elapsed t t0) := rfl

theorem dispatchIter (sample : Sample) (before after : Nat) : Statement (.dispatchIter sample before after) := rfl

end Sys2Proof.Laws.Encodable
end

