-- ==== Sys2Proof/Tests/Slice0.lean ====
section
/-! SUPPORT. Small tests. Expected results are the vectors of 95_test_vectors.md (named in the comments), or words written
out from 30_encoding.md; the last part shows states that meet the hypotheses of the statements. -/

namespace Sys2Proof.Tests

open Sys2Proof.Machine

/-- A button as the vectors write it, with `C = 5` and `T = 20` unless given. -/
def button (fsm : DebounceState) (state prevState toggle : Bool) (onStart offStart : Word)
    (confirm : Word := 5) (timeout : Word := 20) : Button :=
  { fsm := fsm, state := state, prevState := prevState, toggle := toggle, onStart := onStart, offStart := offStart,
    confirmMs := confirm, timeoutMs := timeout }

/-- A state with this button and counter, and the Dispatcher's constants of program P1. -/
def state (b : Button) (count : Word := 0) (inputs : List Event := []) : State :=
  { msCount := count, button := b, dispatcher := { indicator := b.state, channel := 1, param := 35, valueOn := 63 },
    sinkTrace := [], results := [], inputs := inputs }

/-- The vectors' start state `(Off,0,0,0,0,0)`. -/
def offButton : Button := button .off false false false 0 0

/-- The vectors' `(DebouncingOn,0,0,0,101,0)`. -/
def risingButton : Button := button .debouncingOn false false false 101 0

/-- The vectors' `(On,1,1,1,101,0)`. -/
def onButton : Button := button .on true true true 101 0

/-- The vectors' `(DebouncingOff,1,1,1,101,130)`. -/
def fallingButton : Button := button .debouncingOff true true true 101 130

/-- The button after one operation. -/
def buttonAfter (i : Instr) (b : Button) : Option Button := (nextState? (exec i (state b))).map State.button

/-- The sink trace after one operation on an empty trace. -/
def traceAfter (i : Instr) : Option (List SinkEvent) := (nextState? (exec i (state offButton))).map State.sinkTrace

/-- A request with all wires zero but the code. -/
def request (code : BitVec 4) : Request := blankRequest code

/-! WellFormed: an ill-formed term for each check -/

theorem test_helper_is_not_requestable : Instr.wellFormed (.elapsed 5 3) = false := by decide

theorem test_thresholds_out_of_order : thresholdsOrdered 10 3 = false := by decide

theorem test_dispatch_value_zero : dispValueLegal 0 = false := by decide

theorem test_dispatch_value_too_large : dispValueLegal 128 = false := by decide

/-! Decoding, words written out from 30_encoding.md R80 and R81 -/

theorem test_decode_activate : decodeTableWord 24 0b100100000010001100111111 = some (.activate 1 35 63) := by decide

theorem test_decode_deactivate : decodeTableWord 24 0b100010010011110001000000 = some (.deactivate 10 60 64) := by decide

theorem test_decode_param_change : decodeTableWord 24 0b101111110000011101100100 = some (.paramChange 16 7 100) := by decide

theorem test_decode_pressure : decodeTableWord 16 0b1101010001111111 = some (.pressure 5 127) := by decide

theorem test_decode_bend : decodeTableWord 24 0b111010000011010000100100 = some (.bend 9 0x1234) := by decide

theorem test_decode_nop : decodeTableWord 8 0b0000 = some .nop := by decide

theorem test_decode_read : decodeTableWord 8 0b0001 = some .read := by decide

theorem test_decode_poll :
    (decode (.request { request 0b0010 with now := 0xFFFFFFFD, sample := .fault })).toOption
      = some (.poll .fault 0xFFFFFFFD) := by decide

theorem test_decode_activate_request :
    (decode (.request { request 0b1001 with c := 255, p := 200, v := 128 })).toOption
      = some (.activate 255 200 128) := by decide

theorem test_decode_bend_request :
    (decode (.request { request 0b1110 with c := 9, v := 65535 })).toOption = some (.bend 9 65535) := by decide

theorem test_decode_tick : (decode .tick).toOption = some .tick := by decide

theorem test_decode_reset : (decode .rst).toOption = some .reset := by decide

theorem test_decode_iterate : (decode (.iterate (.ok true) 0 2)).toOption = some (.dispatchIter (.ok true) 0 2) := by decide

theorem test_helper_has_no_code : encode (.elapsed 5 3) = none := by decide

/-- V-R2: 0x7 is reserved. -/
theorem test_decode_reserved : (decode (.request (request 0x7))).toOption = none := by decide

/-- R83: no message begins with high nibble A, and no data byte has bit 7 set. -/
theorem test_decode_no_message :
    decodeTableWord 24 0xA02040 = none ∧ decodeTableWord 24 0x908040 = none ∧ decodeTableWord 24 0x702040 = none := by
  decide

theorem test_fsm_code : DebounceState.code .debouncingOff = 0b10 := by decide

theorem test_poll_result_bit : pollResultBit .fault = 1 := by decide

/-! The step -/

theorem test_step_runs_table_word :
    (nextState? (step (State.reset.withFetchWord 24 0x90233F))).map State.sinkTrace
      = some [.write 0x90, .write 0x23, .write 0x3F, .flush] := by decide

theorem test_step_refuses_reserved :
    refusal? (step (state offButton 0 [.request (request 0xC)])) = some (.reservedOpSel 0xC) := by decide

/-! One or two tests an operation -/

/-- V-TK4: the counter wraps. -/
theorem test_tick_wraps :
    (nextState? (exec .tick (state offButton 0xFFFFFFFF))).map State.msCount = some 0 := by decide

/-- V-TK6. -/
theorem test_read_returns_count :
    (nextState? (exec .read (state offButton 1234))).map countOut = some (some 1234) := by decide

/-- V-EL2, V-EL3, V-EL4, V-EL6, V-EL8. -/
theorem test_elapsed :
    elapsed 10 3 = 7 ∧ elapsed 0xFFFFFFFF 0 = 4294967295 ∧ elapsed 0 0xFFFFFFFF = 0 ∧ elapsed 4 0xFFFFFFFA = 9 ∧
      elapsed 99 100 = 4294967294 := by decide

/-- V-P1 to V-P9, V-P12, V-P16 to V-P19, V-P22 to V-P24. -/
theorem test_poll_arms :
    buttonAfter (.poll (.ok true) 101) offButton = some risingButton ∧
    buttonAfter (.poll (.ok false) 100) offButton = some offButton ∧
    buttonAfter (.poll (.ok true) 107) risingButton = some (button .on true false true 101 0) ∧
    buttonAfter (.poll (.ok true) 106) risingButton = some risingButton ∧
    buttonAfter (.poll (.ok false) 31) (button .debouncingOn false false false 10 0)
      = some (button .off false false false 10 0) ∧
    buttonAfter (.poll (.ok false) 30) (button .debouncingOn false false false 10 0)
      = some (button .debouncingOn false false false 10 0) ∧
    buttonAfter (.poll (.ok true) 31) (button .debouncingOn false false false 10 0)
      = some (button .on true false true 10 0) ∧
    buttonAfter (.poll (.ok true) 3) (button .debouncingOn false false false 0xFFFFFFFD 0)
      = some (button .debouncingOn false false false 0xFFFFFFFD 0) ∧
    buttonAfter (.poll (.ok true) 4) (button .debouncingOn false false false 0xFFFFFFFD 0)
      = some (button .on true false true 0xFFFFFFFD 0) ∧
    buttonAfter (.poll (.ok true) 99) (button .debouncingOn false false false 100 0)
      = some (button .on true false true 100 0) ∧
    buttonAfter (.poll (.ok false) 130) onButton = some fallingButton ∧
    buttonAfter (.poll (.ok true) 120) (button .on true false true 101 0) = some onButton ∧
    buttonAfter (.poll (.ok false) 136) fallingButton = some (button .off false true true 101 130) ∧
    buttonAfter (.poll (.ok false) 135) fallingButton = some fallingButton ∧
    buttonAfter (.poll (.ok true) 221) (button .debouncingOff true true true 101 200)
      = some (button .on true true true 101 200) ∧
    buttonAfter (.poll (.ok true) 220) (button .debouncingOff true true true 101 200)
      = some (button .debouncingOff true true true 101 200) := by decide

/-- V-P28: the stale edge stays visible after a faulted poll, which returns `Fault`. -/
theorem test_poll_fault :
    buttonAfter (.poll .fault 137) (button .off false true true 101 130) = some (button .off false true true 101 130) ∧
    (nextState? (exec (.poll .fault 137) (state offButton))).map pollResult = some (some .fault) := by decide

/-- V-EN3, V-EN4. -/
theorem test_activate :
    traceAfter (.activate 17 0 0) = some [.write 0x9F, .write 0, .write 0, .flush] ∧
    traceAfter (.activate 0 200 128) = some [.write 0x90, .write 0x7F, .write 0x7F, .flush] := by decide

/-- V-EN6, V-EN8. -/
theorem test_deactivate :
    traceAfter (.deactivate 10 60 64) = some [.write 0x89, .write 0x3C, .write 0x40, .flush] ∧
    traceAfter (.deactivate 16 128 127) = some [.write 0x8F, .write 0x7F, .write 0x7F, .flush] := by decide

/-- V-EN9, V-EN10. -/
theorem test_param_change :
    traceAfter (.paramChange 16 7 100) = some [.write 0xBF, .write 0x07, .write 0x64, .flush] ∧
    traceAfter (.paramChange 3 255 255) = some [.write 0xB2, .write 0x7F, .write 0x7F, .flush] := by decide

/-- V-EN12, V-EN13. -/
theorem test_pressure :
    traceAfter (.pressure 5 200) = some [.write 0xD4, .write 0x7F, .flush] ∧
    traceAfter (.pressure 16 0) = some [.write 0xDF, .write 0x00, .flush] := by decide

/-- V-EN17, V-EN18, V-EN20. -/
theorem test_bend :
    traceAfter (.bend 1 16384) = some [.write 0xE0, .write 0x7F, .write 0x7F, .flush] ∧
    traceAfter (.bend 1 128) = some [.write 0xE0, .write 0x00, .write 0x01, .flush] ∧
    traceAfter (.bend 9 0x1234) = some [.write 0xE8, .write 0x34, .write 0x24, .flush] := by decide

/-- V-H5 and the ends of the clamps on all integers. -/
theorem test_clamps : clamp7 (-1) = 0 ∧ clamp7 128 = 127 ∧ clamp14 16384 = 16383 ∧ chan 0 = 0 ∧ chan 255 = 15 := by decide

/-- P5, step 3: two ticks fall after the `READ`, and the poll still works with the time read. -/
theorem test_dispatch_rising :
    (nextState? (exec (.dispatchIter (.ok true) 2 0) (state (button .debouncingOn false false false 50 0) 57))).map
      (fun t => (t.msCount, t.button, t.dispatcher.indicator, t.sinkTrace))
      = some (59, button .on true false true 50 0, true, [.write 0x90, .write 0x23, .write 0x3F, .flush]) := by decide

/-- P1, step 10: the falling edge. -/
theorem test_dispatch_falling :
    (nextState? (exec (.dispatchIter (.ok false) 0 0) (state fallingButton 136))).map
      (fun t => (t.button, t.dispatcher.indicator, t.sinkTrace))
      = some (button .off false true true 101 130, false, [.write 0x90, .write 0x23, .write 0x00, .flush]) := by decide

/-- V-R1. -/
theorem test_reset :
    (nextState? (exec .reset (state fallingButton 77))).map (fun t => (t.msCount, t.button, t.sinkTrace))
      = some (0, offButton, []) := by decide

/-- V-R3. -/
theorem test_nop : nextState? (exec .nop (state risingButton 9)) = some (state risingButton 9) := by decide

theorem test_construct_default_timeout :
    refusal? (construct 21) = some .thresholdsOutOfOrder ∧ refusal? (construct 20) = none := by decide

/-- D17: the message wires of a cycle. -/
theorem test_cycle_message :
    cycleMessage { rst := false, tick := true, request := { request 0xD with c := 5, v := 200 } }
      = { len := 2, b0 := 0xD4, b1 := 0x7F, b2 := 0 } := by decide

/-! States and operands that meet the hypotheses of the statements, each clause at the ends of its range -/

theorem witness_StepRunsTheDecodedOperation :
    (state offButton).inputs = [] ∧
    ((state offButton 0 [.tick, .rst]).inputs = Event.tick :: [.rst] ∧ decode .tick = .ok .tick) ∧
    ((state offButton 0 [.request (request 0xF)]).inputs = .request (request 0xF) :: [] ∧
      decode (.request (request 0xF)) = .error (.reservedOpSel 0xF)) := ⟨rfl, ⟨rfl, rfl⟩, rfl, rfl⟩

theorem witness_ReservedCodesAreRefused :
    (request 0x3).opSel.toNat ∈ [0x3, 0x4, 0x5, 0x6, 0x7, 0xA, 0xC, 0xF] ∧
    (request 0xF).opSel.toNat ∈ [0x3, 0x4, 0x5, 0x6, 0x7, 0xA, 0xC, 0xF] ∧
    (state offButton 0 [.request (request 0x3)]).inputs = .request (request 0x3) :: [] := by decide

theorem witness_DecodeOfEncodeIsTheOperation :
    Instr.wellFormed (.poll .fault 7) = true ∧ Instr.wellFormed (.elapsed 7 7) = false := by decide

theorem witness_encoder_operations :
    isEncoderOp (.activate 0 200 128) = true ∧ isEncoderOp (.bend 255 65535) = true ∧
    clampInputs (.activate 0 200 128) = clampInputs (.activate 1 127 127) := by decide

theorem witness_EveryMessageIsSentByItsOperation :
    messageOk [0xDF, 0x00] = true ∧ (decodeMessage [0xDF, 0x00]).toOption = some (.pressure 16 0) ∧
    messageOk [0xE0, 0x7F, 0x7F] = true := by decide

theorem witness_counter_requests :
    decode .tick = .ok .tick ∧ decode (.request (request 1)) = .ok .read ∧
    decode (.request (request 0)) = .ok .nop ∧ decode .rst = .ok .reset := ⟨rfl, rfl, rfl, rfl⟩

/-- For `ElapsedIsThePrintedFormula` and `ElapsedFitsThe32BitDatapath`: both branches, at their common end. -/
theorem witness_elapsed_branches :
    (5 : Word).toNat ≤ (5 : Word).toNat ∧ (99 : Word).toNat < (100 : Word).toNat ∧ (5 : Word) ≤ 5 ∧ (99 : Word) < 100 := by
  decide

theorem witness_ElapsedIsOneShortAcrossTheWrap :
    ((0 : Word) ≤ 0 + BitVec.ofNat 32 0xFFFFFFFF ∧ 0xFFFFFFFF ≤ 0xFFFFFFFF) ∧
    ((0xFFFFFFFF : Word) + BitVec.ofNat 32 1 < 0xFFFFFFFF ∧ 1 ≤ 0xFFFFFFFF) := by decide

theorem witness_LaterReadsCountTheTicks :
    Instr.tick ≠ .reset ∧ exec .tick (state offButton) = .next (state offButton 1) ∧
    Instr.reset ∉ [.tick, .dispatchIter (.ok true) 2 3] ∧
    (state offButton 0xFFFFFFF9).msCount.toNat + tickTotal [.tick, .dispatchIter (.ok true) 2 3] ≤ 0xFFFFFFFF :=
  ⟨by decide, rfl, by decide, by decide⟩

/-- For `PollInOff`, `PollInOn`, and their last clauses. -/
theorem witness_arms_without_time :
    (state offButton).button.fsm = .off ∧ (state onButton).button.fsm = .on ∧
    (exec (.poll (.ok true) 101) (state offButton) = .next (poll (.ok true) 101 (state offButton)) ∧
      (poll (.ok true) 101 (state offButton)).button.onStart ≠ (state offButton).button.onStart) ∧
    (exec (.poll (.ok false) 130) (state onButton) = .next (poll (.ok false) 130 (state onButton)) ∧
      (poll (.ok false) 130 (state onButton)).button.offStart ≠ (state onButton).button.offStart) :=
  ⟨rfl, rfl, ⟨rfl, by decide⟩, rfl, by decide⟩

/-- For `PollInDebouncingOn`: each clause one side of its threshold, 5 and 20. -/
theorem witness_PollInDebouncingOn :
    (state risingButton).button.fsm = .debouncingOn ∧
    risingButton.confirmMs.toNat < (elapsed 107 risingButton.onStart).toNat ∧
    (elapsed 106 risingButton.onStart).toNat ≤ risingButton.confirmMs.toNat ∧
    risingButton.timeoutMs.toNat < (elapsed 122 risingButton.onStart).toNat ∧
    (elapsed 121 risingButton.onStart).toNat ≤ risingButton.timeoutMs.toNat ∧
    (poll (.ok true) 107 (state risingButton)).button.toggle ≠ (state risingButton).button.toggle := by decide

/-- For `PollInDebouncingOff`: each clause one side of its threshold. -/
theorem witness_PollInDebouncingOff :
    (state fallingButton).button.fsm = .debouncingOff ∧
    fallingButton.confirmMs.toNat < (elapsed 136 fallingButton.offStart).toNat ∧
    (elapsed 135 fallingButton.offStart).toNat ≤ fallingButton.confirmMs.toNat ∧
    fallingButton.timeoutMs.toNat < (elapsed 151 fallingButton.offStart).toNat ∧
    (elapsed 150 fallingButton.offStart).toNat ≤ fallingButton.timeoutMs.toNat := by decide

/-- For `OnlyFaultedSamplesFault` and `PollResultIsTheLatestPolls`. -/
theorem witness_faults :
    meetsFault (.poll .fault 7) = true ∧ meetsFault (.dispatchIter .fault 0 0) = true ∧
    polled (.poll (.ok true) 7) (state offButton) = some (true, 7) ∧
    (Instr.read ≠ .reset ∧ meetsFault .read = false ∧ polled .read (state offButton) = none) := by decide

theorem witness_TimePassesWhilePollsFault :
    ∀ i ∈ [Instr.tick, .poll .fault 3, .tick], i = .tick ∨ ∃ now, i = .poll .fault now := by
  simp

/-- For `TransitionsAreExactlyTheSix`: each of the six conditions just past its threshold. -/
theorem witness_TransitionsAreExactlyTheSix :
    takesT1 true offButton ∧ takesT2 true 107 risingButton ∧ takesT3 false 122 risingButton ∧
    takesT4 false onButton ∧ takesT5 false 136 fallingButton ∧ takesT6 true 151 fallingButton := by decide

theorem witness_EdgeExactlyAfterConfirmation :
    coupled (state risingButton).button = true ∧
    exec (.poll (.ok true) 107) (state risingButton) = .next (poll (.ok true) 107 (state risingButton)) ∧
    edge (poll (.ok true) 107 (state risingButton)).button = true ∧
    exec (.poll (.ok true) 108) (poll (.ok true) 107 (state risingButton))
      = .next (poll (.ok true) 108 (poll (.ok true) 107 (state risingButton))) :=
  ⟨by decide, rfl, by decide, rfl⟩

/-- For `ToggleFlipsExactlyOnActivation` and `TimestampsRecordFirstEdges`: an operation that is no `RESET`, its next
state, and both kinds of `polled`. -/
theorem witness_toggle_and_timestamps :
    Instr.poll (.ok true) 7 ≠ .reset ∧
    exec (.poll (.ok true) 7) (state offButton) = .next (poll (.ok true) 7 (state offButton)) ∧
    (polled (.poll (.ok true) 7) (state offButton) = some (true, 7) ∧ takesT1 true (state offButton).button) ∧
    ¬ takesT1 false (state offButton).button ∧ takesT4 false (state onButton).button ∧
    ¬ takesT4 true (state onButton).button ∧ polled .tick (state offButton) = none :=
  ⟨by decide, rfl, by decide, by decide, by decide, by decide, by decide⟩

theorem witness_ToggleIsTheParityOfActivations :
    (state offButton).button = Button.atReset (state offButton).button.confirmMs (state offButton).button.timeoutMs := by
  decide

theorem witness_HeldPressConfirmsOnce :
    (state offButton).button.fsm = .off ∧
    (∀ w ∈ [(0 : Word), 5], (elapsed w 0).toNat ≤ (state offButton).button.confirmMs.toNat) ∧
    (state offButton).button.confirmMs.toNat < (elapsed 6 0).toNat :=
  ⟨rfl, by simp only [List.forall_mem_cons, List.not_mem_nil, false_imp_iff, implies_true, and_true]; decide, by decide⟩

theorem witness_BouncesDoNotRestartTheEpisode :
    (state offButton).button.confirmMs.toNat < (elapsed 6 0).toNat ∧ (state offButton).button.fsm = .off ∧
    undecided 0 (state offButton).button.confirmMs (state offButton).button.timeoutMs [(true, 5), (false, 20)] ∧
    (state onButton).button.fsm = .on ∧
    undecided 0 (state onButton).button.timeoutMs (state onButton).button.confirmMs [(true, 20), (false, 5)] := by
  simp only [undecided, List.forall_mem_cons, List.not_mem_nil, false_imp_iff, implies_true, and_true]
  decide

/-- P2, part a: one of its bounces, at both of its ends. -/
theorem witness_RejectedBouncesNeverConfirm :
    (state offButton).button.fsm = .off ∧
    ∀ x ∈ [({ start := 0, waits := [(true, 5), (false, 20)], rejected := 21, idle := [22] } : Bounce)],
      bounceRejected (state offButton).button.confirmMs (state offButton).button.timeoutMs x := by
  simp only [bounceRejected, undecided, List.forall_mem_cons, List.not_mem_nil, false_imp_iff, implies_true, and_true]
  decide

theorem witness_AssertedSamplesNeverReject : (state risingButton).button.fsm ≠ .off := by decide

theorem witness_ThresholdCornerCases :
    (risingButton.fsm = .debouncingOn ∧ (101 : Word) = risingButton.onStart) ∧
    (fallingButton.fsm = .debouncingOff ∧ (130 : Word) = fallingButton.offStart) ∧
    ((100 : Word) < risingButton.onStart ∧
      risingButton.confirmMs.toNat + (risingButton.onStart.toNat - (100 : Word).toNat) < 0xFFFFFFFF) ∧
    (button .debouncingOn false false false 0 0 0xFFFFFFFF 0xFFFFFFFF).confirmMs = 0xFFFFFFFF := by decide

theorem witness_ThreeByteMessages : 15 = min (max (255 : Byte).toNat 1) 16 - 1 ∧ 0 = min (max (0 : Byte).toNat 1) 16 - 1 := by
  decide

theorem witness_ClampsOnAllIntegers :
    ((-1 : Int) < 0 ∧ (0 : Int) ≤ 127 ∧ (127 : Int) < 128) ∧ ((0 : Int) ≤ 16383 ∧ (16383 : Int) < 16384) ∧
    ((1 : Int) ≤ 1 ∧ (1 : Int) < 2 ∧ (15 : Int) < 16 ∧ (16 : Int) ≤ 16) := by decide

theorem witness_StatusBytesHoldBaseAndChannel : (0xE0 : Byte) ∈ [(0x80 : Byte), 0x90, 0xB0, 0xD0, 0xE0] := by decide

theorem witness_OnlyWholeMessagesReachTheSink :
    Instr.reset = .reset ∧ isEncoderOp (.pressure 1 2) = true ∧
    (Instr.tick ≠ .reset ∧ isEncoderOp .tick = false ∧ domainOf .tick ≠ .boundary) := by decide

/-- For `IterationIsItsExpansion`: after the gap's poll, with and without an edge. -/
theorem witness_IterationIsItsExpansion :
    Sample.ok true ≠ .fault ∧
    ((execAll [.read, .poll (.ok true) 107] (state risingButton 107)) =
        .next (poll (.ok true) 107 (readCount (state risingButton 107))) ∧
      (poll (.ok true) 107 (readCount (state risingButton 107))).button.state
        ≠ (poll (.ok true) 107 (readCount (state risingButton 107))).button.prevState) ∧
    (poll (.ok true) 106 (readCount (state risingButton 106))).button.state
      = (poll (.ok true) 106 (readCount (state risingButton 106))).button.prevState :=
  ⟨by decide, ⟨rfl, by decide⟩, by decide⟩

theorem witness_OneMessagePerEdge :
    dispValueLegal (state risingButton 107).dispatcher.valueOn = true ∧
    exec (.dispatchIter (.ok true) 0 0) (state risingButton 107)
      = .next (dispatchIter (.ok true) 0 0 (state risingButton 107)) ∧
    rising (dispatchIter (.ok true) 0 0 (state risingButton 107)).button = true ∧
    edge (dispatchIter (.ok true) 0 0 (state risingButton 106)).button = false ∧
    falling (dispatchIter (.ok false) 0 0 (state fallingButton 136)).button = true :=
  ⟨by decide, rfl, by decide, by decide, by decide⟩

theorem witness_IndicatorMirrorsState :
    (∀ e ∈ (state onButton 0 [.tick, .iterate (.ok false) 1 1, .rst]).inputs, isRequest e = false) ∧
    (state onButton 0 [.tick, .iterate (.ok false) 1 1, .rst]).dispatcher.indicator
      = (state onButton 0 [.tick, .iterate (.ok false) 1 1, .rst]).button.state := by decide

theorem witness_ConstructionChecksTheThresholds : (19 : Word) < 20 ∧ (20 : Word) ≤ 20 := by decide

theorem witness_OperationsWriteOnlyTheirState :
    exec .read (state offButton) = .next (readCount (state offButton)) ∧
    (Instr.read ≠ .reset ∧ tickCount .read = 0 ∧ polled .read (state offButton) = none ∧
      isEncoderOp .read = false ∧ domainOf .read ≠ .boundary) ∧
    isEncoderOp (.bend 1 2) = true := ⟨rfl, by decide, by decide⟩

theorem witness_DomainsShareOnlyTheCounter :
    domainOf .tick = .interrupt ∧ domainOf (.poll (.ok true) 7) = .loop ∧ decode .tick = .ok .tick :=
  ⟨by decide, by decide, rfl⟩

theorem witness_PollDependsOnTheButtonOnly : (state onButton 3).button = (state onButton 4 [.rst]).button := by decide

theorem witness_SimultaneousEventsInOneCycle :
    ({ rst := true, tick := true, request := request 1 } : CycleInputs).rst = true ∧
    (({ rst := false, tick := true, request := request 1 } : CycleInputs).rst = false ∧
      ({ rst := false, tick := true, request := request 1 } : CycleInputs).tick = true ∧ (request 1).opSel = 0x1) ∧
    (request 2).opSel = 0x2 := by decide

theorem witness_StateIsCoupledToFsm :
    (state offButton 0 [.tick]).button = Button.atReset offButton.confirmMs offButton.timeoutMs ∧
    core.run 1 (state offButton 0 [.tick]) = .next (state offButton 1) := ⟨by decide, rfl⟩

theorem witness_EveryStepKeepsTheInvariant :
    MachineInv (state risingButton 106 [.tick]) ∧
    step (state risingButton 106 [.tick]) = .next (state risingButton 107) :=
  ⟨⟨by decide, by decide, by decide, [], rfl, by simp⟩, rfl⟩

theorem witness_ResetMeetsTheInvariant :
    construct 20 20 = .next { State.reset with button := Button.atReset 20 20 } := rfl

end Sys2Proof.Tests
end

section
/-! The step as equations, one per case of the next event (00_scope.md R13, 30_encoding.md R82). -/

namespace Sys2Proof.Machine

theorem fetch_of_inputs_nil {s : State} (h : s.inputs = []) : fetch s = none := by
  simp [fetch, h]

theorem fetch_of_inputs_cons {s : State} {e : Event} {rest : List Event} (h : s.inputs = e :: rest) :
    fetch s = some (e, { s with inputs := rest }) := by
  simp [fetch, h]

theorem step_of_inputs_nil {s : State} (h : s.inputs = []) : step s = .next s := by
  simp [step, fetch_of_inputs_nil h]

theorem step_of_decode_ok {s : State} {e : Event} {rest : List Event} {i : Instr}
    (h : s.inputs = e :: rest) (hd : decode e = .ok i) : step s = exec i { s with inputs := rest } := by
  simp [step, fetch_of_inputs_cons h, hd]

theorem step_of_decode_error {s : State} {e : Event} {rest : List Event} {err : RequestError}
    (h : s.inputs = e :: rest) (hd : decode e = .error err) : step s = .refused (refusalOf err) := by
  simp [step, fetch_of_inputs_cons h, hd]

/-- Settles O1: the three equations of `step`, one per clause. -/
theorem stepRunsTheDecodedOperation : Obligations.StepRunsTheDecodedOperation := by
  intro s
  refine ⟨step_of_inputs_nil, ?ok, ?refused⟩
  case ok =>
    intro e rest i hin hd
    exact step_of_decode_ok hin hd
  case refused =>
    intro e rest code hin hd
    exact step_of_decode_error hin hd

end Sys2Proof.Machine
end

section
/-! Every message the block sends is well formed (30_encoding.md R83, R84), and a trace of such messages stays one. -/

namespace Sys2Proof.Machine

theorem msb_false_of_lt {b : Byte} (h : b.toNat < 128) : b.msb = false := by
  rw [BitVec.msb_eq_false_iff_two_mul_lt]
  omega

theorem bendLow_msb (b : BitVec 14) : (bendLow b).msb = false :=
  msb_false_of_lt (by rw [bendLow_toNat]; omega)

theorem bendHigh_msb (b : BitVec 14) : (bendHigh b).msb = false :=
  msb_false_of_lt (by rw [bendHigh_toNat]; omega)

theorem highNibble_statusByte {base : Byte} (c : Byte) (h : base ∈ [0x80, 0x90, 0xB0, 0xD0, 0xE0]) :
    highNibble (statusByte base c) = highNibble base :=
  (statusByte_fields base c h).1

theorem messageOk_messageM3 {base : Byte} (c p v : Byte) (h : base ∈ [0x80, 0x90, 0xB0]) :
    messageOk (messageM3 base c p v) = true := by
  have hbase : base ∈ [0x80, 0x90, 0xB0, 0xD0, 0xE0] := by
    simp only [List.mem_cons, List.not_mem_nil, or_false] at h ⊢
    tauto
  simp only [messageM3, messageOk, dataByte_msb, highNibble_statusByte c hbase]
  simp only [List.mem_cons, List.not_mem_nil, or_false] at h
  obtain rfl | rfl | rfl := h <;> rfl

theorem messageOk_messageM2 (c v : Byte) : messageOk (messageM2 basePressure c v) = true := by
  simp only [messageM2, messageOk, dataByte_msb, highNibble_statusByte c (base := basePressure) (by decide)]
  rfl

theorem messageOk_messageMB (c : Byte) (v : Half) : messageOk (messageMB baseBend c v) = true := by
  simp only [messageMB, messageOk, bendLow_msb, bendHigh_msb,
    highNibble_statusByte c (base := baseBend) (by decide)]
  rfl

/-- R83: an encoder operation sends a well-formed message. -/
theorem messageOk_messageOf {i : Instr} (h : isEncoderOp i = true) : messageOk (messageOf i) = true := by
  cases i with
  | deactivate c p v => exact messageOk_messageM3 c p v (by decide)
  | activate c p v => exact messageOk_messageM3 c p v (by decide)
  | paramChange c p v => exact messageOk_messageM3 c p v (by decide)
  | pressure c v => exact messageOk_messageM2 c v
  | bend c v => exact messageOk_messageMB c v
  | _ => cases h

theorem traceOk_nil : traceOk [] := ⟨[], rfl, by simp⟩

theorem traceOk_append_framed {trace : List SinkEvent} {m : List Byte} (ht : traceOk trace)
    (hm : messageOk m = true) : traceOk (trace ++ framed m) := by
  obtain ⟨ms, rfl, hms⟩ := ht
  refine ⟨ms ++ [m], by simp, ?_⟩
  simpa [or_imp, forall_and] using ⟨hms, hm⟩

end Sys2Proof.Machine
end

section
/-! What an operation does to each field of the state but the counter and the button, whose laws are `count_after` and
`button_after` (10_state.md R37). -/

namespace Sys2Proof.Machine

theorem emitEdge_sinkTrace (s : State) :
    (emitEdge s).sinkTrace = if edge s.button then
        s.sinkTrace ++ framed (messageM3 baseActivate s.dispatcher.channel s.dispatcher.param (edgeValue s))
      else s.sinkTrace := by
  unfold emitEdge
  split <;> simp [sendMessage_eq]

/-- An encoder operation appends the same events in every state and writes nothing else (R32). -/
theorem exec_encoder_next {i : Instr} (s : State) (h : isEncoderOp i = true) :
    exec i s = .next { s with sinkTrace := s.sinkTrace ++ framed (messageOf i) } := by
  rw [exec_encoder i s h, sendMessage_eq]

theorem inputs_after {i : Instr} {s t : State} (h : exec i s = .next t) : t.inputs = s.inputs := by
  cases i with
  | tick => cases h; rfl
  | reset => cases h; rfl
  | nop => cases h; rfl
  | read => cases h; rfl
  | poll sample now => cases h; simp [poll_frame]
  | elapsed now start => cases h; rfl
  | dispatchIter sample before after => cases h; simp [dispatchIter_frame]
  | _ => rw [exec_encoder_next _ rfl] at h; cases h; rfl

/-- Outside `RESET` and the iteration, the trace grows by the operation's own message and the Dispatcher is left alone. -/
theorem trace_and_dispatcher_after {i : Instr} {s t : State} (hi : i ≠ .reset) (hb : domainOf i ≠ .boundary)
    (h : exec i s = .next t) :
    t.sinkTrace = s.sinkTrace ++ (if isEncoderOp i then framed (messageOf i) else [])
      ∧ t.dispatcher = s.dispatcher := by
  cases i with
  | reset => exact absurd rfl hi
  | dispatchIter sample before after => exact absurd rfl hb
  | tick => cases h; simp [isEncoderOp]
  | nop => cases h; simp [isEncoderOp]
  | read => cases h; simp [isEncoderOp]
  | poll sample now => cases h; simp [isEncoderOp, poll_frame]
  | elapsed now start => cases h; simp [isEncoderOp]
  | _ => rw [exec_encoder_next _ rfl] at h; cases h; exact ⟨rfl, rfl⟩

/-- R181, R184: an iteration sends nothing or one well-formed message. -/
theorem dispatchIter_sinkTrace (sample : Sample) (before after : Nat) (s : State) :
    (dispatchIter sample before after s).sinkTrace = s.sinkTrace ∨
      ∃ m, messageOk m = true ∧ (dispatchIter sample before after s).sinkTrace = s.sinkTrace ++ framed m := by
  have hgap : (ticks after (pollNow sample before s)).sinkTrace = s.sinkTrace := by
    simp [pollNow_eq, ticks_eq, poll_frame]
  cases sample with
  | fault => exact .inl hgap
  | ok raw =>
      simp only [dispatchIter, resultOfSample, finishIteration, respond_sinkTrace, emitEdge_sinkTrace, hgap]
      split
      · exact .inr ⟨_, messageOk_messageM3 (base := baseActivate) _ _ _ (by decide), rfl⟩
      · exact .inl rfl

/-- R66, R83: no operation but `RESET` appends to the trace anything but one whole well-formed message. -/
theorem trace_after {i : Instr} {s t : State} (hi : i ≠ .reset) (h : exec i s = .next t) :
    t.sinkTrace = s.sinkTrace ∨ ∃ m, messageOk m = true ∧ t.sinkTrace = s.sinkTrace ++ framed m := by
  by_cases hb : domainOf i = .boundary
  · cases i with
    | dispatchIter sample before after => cases h; exact dispatchIter_sinkTrace sample before after s
    | _ => cases hb
  · obtain ⟨htrace, -⟩ := trace_and_dispatcher_after hi hb h
    by_cases he : isEncoderOp i = true
    · exact .inr ⟨messageOf i, messageOk_messageOf he, by simpa [he] using htrace⟩
    · exact .inl (by simpa [he] using htrace)

theorem results_after {i : Instr} {s t : State} (hi : isEncoderOp i = true ∨ i = .nop ∨ i = .tick)
    (h : exec i s = .next t) : t.results = s.results := by
  obtain he | rfl | rfl := hi
  · rw [exec_encoder_next s he] at h; cases h; rfl
  · cases h; rfl
  · cases h; rfl

/-- The constants of the button and of the Dispatcher are the same in both states. -/
def SameConstants (s t : State) : Prop :=
  t.button.confirmMs = s.button.confirmMs ∧ t.button.timeoutMs = s.button.timeoutMs ∧
  t.dispatcher.channel = s.dispatcher.channel ∧ t.dispatcher.param = s.dispatcher.param ∧
  t.dispatcher.valueOn = s.dispatcher.valueOn

theorem SameConstants.refl (s : State) : SameConstants s s := ⟨rfl, rfl, rfl, rfl, rfl⟩

theorem SameConstants.trans {s t u : State} (hst : SameConstants s t) (htu : SameConstants t u) :
    SameConstants s u := by
  simp_all [SameConstants]

theorem thresholds_after {i : Instr} {s t : State} (h : exec i s = .next t) :
    t.button.confirmMs = s.button.confirmMs ∧ t.button.timeoutMs = s.button.timeoutMs := by
  by_cases hi : i = .reset
  · subst hi; cases h; exact ⟨rfl, rfl⟩
  · rw [button_after hi h]
    split
    · obtain ⟨hc, ht, -⟩ := pollButton_always _ _ s.button
      exact ⟨hc, ht⟩
    · exact ⟨rfl, rfl⟩

/-- R28, R29, R185: no operation writes a constant. -/
theorem exec_keeps_constants {i : Instr} {s t : State} (h : exec i s = .next t) : SameConstants s t := by
  obtain ⟨hconfirm, htimeout⟩ := thresholds_after h
  refine ⟨hconfirm, htimeout, ?_⟩
  by_cases hi : i = .reset
  · subst hi; cases h; exact ⟨rfl, rfl, rfl⟩
  by_cases hb : domainOf i = .boundary
  · cases i with
    | dispatchIter sample before after => cases h; simp [dispatchIter_frame]
    | _ => cases hb
  · obtain ⟨-, hdispatcher⟩ := trace_and_dispatcher_after hi hb h
    simp [hdispatcher]

end Sys2Proof.Machine
end

section
/-! What a readable poll does to `toggle` (10_state.md R25), and the coupling of `fsm` and `state` (R34). -/

namespace Sys2Proof.Machine

theorem activates_iff (b : Button) (raw : Bool) (now : Word) : activates b raw now = true ↔ takesT2 raw now b := by
  simp [activates]

/-- R25, R126: T2 flips `toggle` and nothing else writes it. -/
theorem pollButton_toggle (raw : Bool) (now : Word) (b : Button) :
    (pollButton raw now b).toggle = (b.toggle ^^ activates b raw now) := by
  cases h : b.fsm
  case off => rw [pollButton_off _ _ _ h]; split <;> simp [activates, h]
  case on => rw [pollButton_on _ _ _ h]; split <;> simp [activates, h]
  case debouncingOff =>
    rw [pollButton_debouncingOff _ _ _ h]
    split <;> [skip; split] <;> simp [activates, h]
  case debouncingOn =>
    have hact : activates b raw now = (raw && exceeds (elapsed now b.onStart) b.confirmMs) := by
      simp [activates, h, exceeds, BitVec.lt_def]
    rw [pollButton_debouncingOn _ _ _ h, ← hact]
    split
    · next hT2 => simp [hT2]
    · next hT2 => split <;> simp [hT2]

theorem pollButton_toggle_ne_iff (raw : Bool) (now : Word) (b : Button) :
    (pollButton raw now b).toggle ≠ b.toggle ↔ takesT2 raw now b := by
  rw [pollButton_toggle, ← activates_iff]
  cases b.toggle <;> simp

theorem coupled_pollButton {b : Button} (raw : Bool) (now : Word) (hb : coupled b = true) :
    coupled (pollButton raw now b) = true := by
  cases h : b.fsm <;> simp only [coupled, h] at hb
  case off => rw [pollButton_off _ _ _ h]; split <;> simp [coupled, h, hb]
  case on => rw [pollButton_on _ _ _ h]; split <;> simp [coupled, h, hb]
  case debouncingOn => rw [pollButton_debouncingOn _ _ _ h]; split <;> [skip; split] <;> simp [coupled, h, hb]
  case debouncingOff => rw [pollButton_debouncingOff _ _ _ h]; split <;> [skip; split] <;> simp [coupled, h, hb]

theorem coupled_atReset (confirm timeout : Word) : coupled (Button.atReset confirm timeout) = true := rfl

theorem exec_keeps_coupling {i : Instr} {s t : State} (hs : coupled s.button = true) (h : exec i s = .next t) :
    coupled t.button = true := by
  by_cases hi : i = .reset
  · subst hi; cases h; exact coupled_atReset _ _
  · rw [button_after hi h]
    split
    · exact coupled_pollButton _ _ hs
    · exact hs

/-- What every operation keeps, whatever the inputs are, every step keeps. -/
theorem step_keeps {P : State → Prop} (hinputs : ∀ s rest, P s → P { s with inputs := rest })
    (hexec : ∀ i s t, P s → exec i s = .next t → P t) {s t : State} (hs : P s) (h : step s = .next t) : P t := by
  obtain ⟨-, rfl⟩ | ⟨e, rest, i, -, -, hi⟩ := step_cases h
  · exact hs
  · exact hexec i _ t (hinputs s rest hs) hi

/-- What every step keeps, every run keeps. -/
theorem run_keeps {P : State → Prop} (hstep : ∀ s t, P s → step s = .next t → P t) {n : Nat} {s t : State}
    (hs : P s) (h : core.run n s = .next t) : P t := by
  induction n generalizing s with
  | zero => cases h; exact hs
  | succ n ih =>
      simp only [Host.Core.run] at h
      split at h
      · next u hu => exact ih (hstep s u hs hu) h
      · cases h
      · cases h

theorem step_keeps_coupling {s t : State} (hs : coupled s.button = true) (h : step s = .next t) :
    coupled t.button = true :=
  step_keeps (P := fun s => coupled s.button = true) (fun _ _ hs => hs) (fun _ _ _ => exec_keeps_coupling) hs h

/-- R34 in its own words. -/
theorem coupled_iff (b : Button) : coupled b = true ↔
    ((b.fsm = .off ∨ b.fsm = .debouncingOn) → b.state = false) ∧
      ((b.fsm = .on ∨ b.fsm = .debouncingOff) → b.state = true) := by
  cases h : b.fsm <;> simp [coupled, h]

end Sys2Proof.Machine
end

section
/-! The invariant: it holds where the block has been reset, and every operation keeps it. -/

namespace Sys2Proof.Machine

theorem machineInv_of_atReset {s : State} {confirm timeout : Word}
    (hbutton : s.button = Button.atReset confirm timeout) (hordered : thresholdsOrdered confirm timeout = true)
    (hvalue : dispValueLegal s.dispatcher.valueOn = true) (htrace : s.sinkTrace = []) : MachineInv s where
  coupling := by rw [hbutton]; exact coupled_atReset _ _
  thresholds := by rw [hbutton]; exact hordered
  dispatchValue := hvalue
  trace := by rw [htrace]; exact traceOk_nil

theorem exec_keeps_traceOk {i : Instr} {s t : State} (hs : traceOk s.sinkTrace) (h : exec i s = .next t) :
    traceOk t.sinkTrace := by
  by_cases hi : i = .reset
  · subst hi; cases h; exact traceOk_nil
  · obtain hsame | ⟨m, hm, happend⟩ := trace_after hi h
    · rw [hsame]; exact hs
    · rw [happend]; exact traceOk_append_framed hs hm

theorem exec_keeps_machineInv {i : Instr} {s t : State} (hs : MachineInv s) (h : exec i s = .next t) :
    MachineInv t := by
  obtain ⟨hconfirm, htimeout, -, -, hvalueOn⟩ := exec_keeps_constants h
  exact {
    coupling := exec_keeps_coupling hs.coupling h
    thresholds := by rw [hconfirm, htimeout]; exact hs.thresholds
    dispatchValue := by rw [hvalueOn]; exact hs.dispatchValue
    trace := exec_keeps_traceOk hs.trace h }

/-- Settles O56: every operation keeps each part of the invariant, and no part depends on the inputs. -/
theorem everyStepKeepsTheInvariant : Obligations.EveryStepKeepsTheInvariant :=
  fun _ _ hs h => step_keeps
    (fun _ _ ⟨hcoupling, hthresholds, hvalue, htrace⟩ => ⟨hcoupling, hthresholds, hvalue, htrace⟩)
    (fun _ _ _ => exec_keeps_machineInv) hs h

/-- The model's bound of `CONFIRM_MS` at reset (log 5) is what R214 asks. -/
theorem config_thresholdsOrdered : thresholdsOrdered Config.confirmMs Config.timeoutMs = true := by
  have hlt := Config.confirmIndex.isLt
  have htimeout : Config.timeoutMs.toNat = 20 := rfl
  simp only [thresholdsOrdered, decide_eq_true_eq, BitVec.le_def, htimeout, Config.confirmMs, BitVec.toNat_ofNat]
  omega

/-- The model's range of `DISP_VALUE_ON` (log 6) is R181's. -/
theorem config_dispValueLegal : dispValueLegal Config.dispValueOn = true := by
  have hlt := Config.dispValueIndex.isLt
  simp only [dispValueLegal, decide_eq_true_eq, Config.dispValueOn, BitVec.toNat_ofNat]
  omega

theorem construct_next {confirm timeout : Word} {t : State} (h : construct confirm timeout = .next t) :
    thresholdsOrdered confirm timeout = true ∧ t = { State.reset with button := Button.atReset confirm timeout } := by
  unfold construct at h
  split at h
  · next hordered => cases h; exact ⟨hordered, rfl⟩
  · cases h

/-- Settles O57: both states are reset states with ordered thresholds, at reset by the bound of log 5, after
construction by its check. -/
theorem resetMeetsTheInvariant : Obligations.ResetMeetsTheInvariant := by
  constructor
  · exact machineInv_of_atReset rfl config_thresholdsOrdered config_dispValueLegal rfl
  · intro confirm timeout t h
    obtain ⟨hordered, rfl⟩ := construct_next h
    exact machineInv_of_atReset rfl hordered config_dispValueLegal rfl

/-- Settles O55: the reset registers are coupled, and every step keeps the coupling. -/
theorem stateIsCoupledToFsm : Obligations.StateIsCoupledToFsm := by
  intro n s t hreset hrun
  have hs : coupled s.button = true := by rw [hreset]; exact coupled_atReset _ _
  have ht : coupled t.button = true :=
    run_keeps (P := fun s => coupled s.button = true) (fun _ _ => step_keeps_coupling) hs hrun
  exact (coupled_iff t.button).mp ht

end Sys2Proof.Machine
end

section
/-! The frame of the operations, the constants and `toggle` (10_state.md R25, R28, R29, R32, R35, R37). -/

namespace Sys2Proof.Machine

/-- Settles O24: an operation that polls changes `toggle` exactly by T2, any other leaves the button. -/
theorem toggleFlipsExactlyOnActivation : Obligations.ToggleFlipsExactlyOnActivation := by
  intro i s t hi h
  rw [button_after hi h]
  cases hp : polled i s with
  | none => simp
  | some p =>
      obtain ⟨raw, now⟩ := p
      simp only [pollButton_toggle_ne_iff, Option.some.injEq, Prod.mk.injEq]
      constructor
      · exact fun hT2 => ⟨raw, now, ⟨rfl, rfl⟩, hT2⟩
      · rintro ⟨_, _, ⟨rfl, rfl⟩, hT2⟩
        exact hT2

/-- Settles O50: one law per field of the state. -/
theorem operationsWriteOnlyTheirState : Obligations.OperationsWriteOnlyTheirState := by
  intro i s t h
  refine ⟨inputs_after h, ?count, ?button, ?trace, ?dispatcher, fun hi => results_after hi h⟩
  case count =>
    intro hi hticks
    rw [count_after hi h, hticks]
    simp
  case button =>
    intro hi hpolled
    rw [button_after hi h, hpolled]
  case trace =>
    intro hi he hb
    simpa [he] using (trace_and_dispatcher_after hi hb h).1
  case dispatcher =>
    intro hi hb
    exact (trace_and_dispatcher_after hi hb h).2

theorem execAll_keeps_constants {is : List Instr} {s t : State} (h : execAll is s = .next t) :
    SameConstants s t := by
  induction is generalizing s with
  | nil => cases h; exact .refl _
  | cons i rest ih =>
      obtain ⟨u, hu⟩ := exec_next i s
      simp only [execAll, hu] at h
      exact (exec_keeps_constants hu).trans (ih h)

/-- Settles O51: every sequence completes, and every operation of it keeps the constants. -/
theorem constantsAreNeverWritten : Obligations.ConstantsAreNeverWritten := by
  intro is s
  obtain ⟨t, ht⟩ := execAll_next is s
  exact ⟨t, ht, execAll_keeps_constants ht⟩

/-- Settles O39: the events of an encoder operation are those of its own message. -/
theorem encoderIsStateless : Obligations.EncoderIsStateless :=
  fun i hi => ⟨framed (messageOf i), fun _ => exec_encoder_next _ hi⟩

/-- Settles O47: the button of the reset state is `Button.atReset`. -/
theorem stateAfterReset : Obligations.StateAfterReset :=
  ⟨rfl, atReset_fsm _ _, atReset_state _ _, atReset_prevState _ _, atReset_toggle _ _, atReset_onStart _ _,
    atReset_offStart _ _⟩

end Sys2Proof.Machine
end

section
/-! The two domains (10_state.md R38, 60_exceptions.md R199), and what a poll reads (R37). -/

namespace Sys2Proof.Machine

theorem domainOf_interrupt_iff (i : Instr) : domainOf i = .interrupt ↔ i = .tick := by
  cases i <;> simp [domainOf]

theorem tickCount_of_loop {i : Instr} (h : domainOf i = .loop) : tickCount i = 0 := by
  cases i with
  | tick => cases h
  | dispatchIter sample before after => cases h
  | _ => rfl

/-- Everything on the request port is the loop domain's. -/
theorem domainOf_decodeRequest {r : Request} {i : Instr} (h : decodeRequest r = .ok i) : domainOf i = .loop := by
  unfold decodeRequest at h
  split at h <;> cases h <;> rfl

theorem domainOf_decode_interrupt_iff {e : Event} {i : Instr} (h : decode e = .ok i) :
    domainOf i = .interrupt ↔ e = .tick := by
  cases e with
  | tick => cases h; simp [domainOf]
  | rst => cases h; simp [domainOf]
  | iterate sample before after => cases h; simp [domainOf]
  | request r => simp [domainOf_decodeRequest h]

/-- Settles O52: the one operation of the interrupt domain is `TICK`, and the loop domain's perform no tick. -/
theorem domainsShareOnlyTheCounter : Obligations.DomainsShareOnlyTheCounter := by
  refine ⟨fun i s => ?_, fun e i h => domainOf_decode_interrupt_iff h⟩
  obtain ⟨t, ht⟩ := exec_next i s
  refine ⟨t, ht, ?interrupt, ?loop⟩
  case interrupt =>
    intro hi
    obtain rfl := (domainOf_interrupt_iff i).mp hi
    cases ht
    rfl
  case loop =>
    intro hi
    have hreset : i ≠ .reset := by rintro rfl; cases hi
    rw [count_after hreset ht, tickCount_of_loop hi]
    simp

theorem poll_results (sample : Sample) (now : Word) (s : State) :
    (poll sample now s).results = s.results ++ [.poll (resultOfSample sample)] := by
  cases sample <;> rfl

theorem pollResult_poll (sample : Sample) (now : Word) (s : State) :
    pollResult (poll sample now s) = some (resultOfSample sample) := by
  rw [pollResult, poll_results, List.reverse_append]
  rfl

theorem poll_button_congr (sample : Sample) (now : Word) {s s' : State} (h : s.button = s'.button) :
    (poll sample now s).button = (poll sample now s').button := by
  cases sample <;> simp [poll, h]

/-- Settles O53: the next button is a function of the button, and the result one of the sample. -/
theorem pollDependsOnTheButtonOnly : Obligations.PollDependsOnTheButtonOnly := by
  intro sample now s s' h
  refine ⟨_, _, exec_poll sample now s, exec_poll sample now s', poll_button_congr sample now h, ?_⟩
  rw [pollResult_poll, pollResult_poll]

end Sys2Proof.Machine
end

section
/-! The decoder of requests and the events (30_encoding.md R81, R82): what each answers, and the round trip. -/

namespace Sys2Proof.Machine

/-- R82: a reserved code is the error that names it. -/
theorem decodeRequest_of_reserved {r : Request}
    (h : r.opSel.toNat ∈ [0x3, 0x4, 0x5, 0x6, 0x7, 0xA, 0xC, 0xF]) :
    decodeRequest r = .error (.reservedOpSel r.opSel) := by
  unfold decodeRequest
  split
  case h_9 => rfl
  all_goals next hcode => simp [hcode] at h

/-- R81: every code that is not reserved selects an operation. -/
theorem decodeRequest_of_not_reserved {r : Request}
    (h : r.opSel.toNat ∉ [0x3, 0x4, 0x5, 0x6, 0x7, 0xA, 0xC, 0xF]) : ∃ i, decodeRequest r = .ok i := by
  have hlt := r.opSel.isLt
  simp only [List.mem_cons, List.not_mem_nil, or_false] at h
  have hcode : r.opSel.toNat = 0x0 ∨ r.opSel.toNat = 0x1 ∨ r.opSel.toNat = 0x2 ∨ r.opSel.toNat = 0x8 ∨
      r.opSel.toNat = 0x9 ∨ r.opSel.toNat = 0xB ∨ r.opSel.toNat = 0xD ∨ r.opSel.toNat = 0xE := by
    omega
  obtain hc | hc | hc | hc | hc | hc | hc | hc := hcode <;> simp [decodeRequest, hc]

theorem decodeRequest_ok_iff (r : Request) :
    (∃ i, decodeRequest r = .ok i) ↔ r.opSel.toNat ∉ [0x3, 0x4, 0x5, 0x6, 0x7, 0xA, 0xC, 0xF] := by
  refine ⟨?_, decodeRequest_of_not_reserved⟩
  rintro ⟨i, hi⟩ hreserved
  rw [decodeRequest_of_reserved hreserved] at hi
  cases hi

theorem decodeRequest_eq_nop_iff (r : Request) : decodeRequest r = .ok .nop ↔ r.opSel = 0x0 := by
  rw [← BitVec.toNat_inj]
  unfold decodeRequest
  split <;> simp_all

/-- The event of an operation requests that operation, with every operand. -/
theorem decode_of_encode {i : Instr} {e : Event} (h : encode i = some e) : decode e = .ok i := by
  cases i with
  | elapsed t t0 => cases h
  | tick => cases h; rfl
  | reset => cases h; rfl
  | dispatchIter sample before after => cases h; rfl
  | _ => cases h; simp [decode, decodeRequest, blankRequest]

theorem encode_isSome (i : Instr) : (encode i).isSome = i.wellFormed := by
  cases i <;> rfl

theorem wellFormed_of_decodeRequest {r : Request} {i : Instr} (h : decodeRequest r = .ok i) :
    i.wellFormed = true := by
  unfold decodeRequest at h
  split at h <;> cases h <;> rfl

/-- Only what can be requested is decoded from an event (00_scope.md R3). -/
theorem wellFormed_of_decode {e : Event} {i : Instr} (h : decode e = .ok i) : i.wellFormed = true := by
  cases e with
  | request r => exact wellFormed_of_decodeRequest h
  | _ => cases h; rfl

/-- Settles O4: a well-formed operation has an event, and events decode to what they encode and to nothing that is not
well formed. -/
theorem decodeOfEncodeIsTheOperation : Obligations.DecodeOfEncodeIsTheOperation := by
  intro i
  rw [← encode_isSome]
  constructor
  · intro hsome
    obtain ⟨e, he⟩ := Option.isSome_iff_exists.mp hsome
    exact ⟨e, he, decode_of_encode he⟩
  · intro hnone
    refine ⟨by simpa using hnone, fun e he => ?_⟩
    rw [encode_isSome, wellFormed_of_decode he] at hnone
    cases hnone

/-- Settles O3: the decoder refuses exactly the reserved codes, and the step passes its error on. -/
theorem reservedCodesAreRefused : Obligations.ReservedCodesAreRefused :=
  fun r => ⟨decodeRequest_ok_iff r,
    fun hreserved _ _ hin => step_of_decode_error hin (decodeRequest_of_reserved hreserved)⟩

/-- Settles O49: only the request port's code 0 decodes to `NOP`. -/
theorem nopChangesNothing : Obligations.NopChangesNothing := by
  refine ⟨exec_nop, fun e => ?_⟩
  cases e with
  | request r => simp [decode, decodeRequest_eq_nop_iff]
  | _ => simp [decode]

end Sys2Proof.Machine
end

section
/-! The codes of `fsm` (30_encoding.md R85), the words of the table (R70, R80, R81), and the bytes of a message
(R71 to R79). -/

namespace Sys2Proof.Machine

theorem debounceStateOfCode_code (f : DebounceState) : debounceStateOfCode f.code = f := by
  cases f <;> rfl

theorem code_debounceStateOfCode : ∀ c : BitVec 2, (debounceStateOfCode c).code = c := by
  decide

/-- Settles O7: by the four states and the four codes. -/
theorem fsmCodesFollowTheListing : Obligations.FsmCodesFollowTheListing := by
  refine ⟨rfl, rfl, rfl, rfl, debounceStateOfCode_code, code_debounceStateOfCode, fun f => ?_⟩
  cases f <;> decide

/-- Settles O2: the decoder evaluates on each word. -/
theorem writtenWordsDecode : Obligations.WrittenWordsDecode :=
  ⟨rfl, rfl, rfl, rfl, rfl, rfl, rfl, rfl⟩

theorem clamp7_cases (v : Int) :
    (v < 0 → clamp7 v = 0) ∧ (0 ≤ v ∧ v ≤ 127 → clamp7 v = v) ∧ (127 < v → clamp7 v = 127) := by
  unfold clamp7
  omega

theorem clamp14_cases (v : Int) :
    (v < 0 → clamp14 v = 0) ∧ (0 ≤ v ∧ v ≤ 16383 → clamp14 v = v) ∧ (16383 < v → clamp14 v = 16383) := by
  unfold clamp14
  omega

theorem chan_cases (c : Int) :
    (c ≤ 1 → chan c = 0) ∧ (1 < c ∧ c < 16 → chan c = c - 1) ∧ (16 ≤ c → chan c = 15) := by
  unfold chan
  omega

/-- Settles O36: the cases of the three clamps, and the two data ports as numbers. -/
theorem clampsOnAllIntegers : Obligations.ClampsOnAllIntegers :=
  ⟨clamp7_cases, clamp14_cases, chan_cases, clamp7_byte, bendValue_toNat⟩

theorem joinBend_bendLow_bendHigh (b : BitVec 14) : (joinBend (bendLow b) (bendHigh b)).toNat = b.toNat := by
  have hlow : (bendLow b).toNat < 128 := by rw [bendLow_toNat]; omega
  rw [joinBend_toNat _ _ hlow, bendLow_toNat, bendHigh_toNat]
  omega

/-- Settles O37: the halves are quotient and remainder, which the join puts together again. -/
theorem bendSplitsLowHalfFirst : Obligations.BendSplitsLowHalfFirst :=
  fun b => ⟨bendLow_toNat b, bendHigh_toNat b, joinBend_bendLow_bendHigh b⟩

theorem channelOf_toNat (status : Byte) : (channelOf status).toNat = (lowNibble status).toNat + 1 := by
  have hlt := (lowNibble status).isLt
  have hone : (1 : Byte).toNat = 1 := rfl
  simp only [channelOf, BitVec.toNat_add, BitVec.toNat_setWidth, hone]
  omega

theorem lowNibble_statusByte {base : Byte} (c : Byte) (h : base ∈ [0x80, 0x90, 0xB0, 0xD0, 0xE0]) :
    (lowNibble (statusByte base c)).toNat = min (max c.toNat 1) 16 - 1 := by
  obtain ⟨-, hchannel, -⟩ := statusByte_fields base c h
  have hnum : (channelOf (statusByte base c)).toNat = min (max c.toNat 1) 16 := by
    rw [hchannel, clampInputs.inChannel, BitVec.toNat_ofNat]
    omega
  rw [channelOf_toNat] at hnum
  omega

/-- Settles O38: base code and nibble share no bit, so each stands in its own half of the byte. -/
theorem statusBytesHoldBaseAndChannel : Obligations.StatusBytesHoldBaseAndChannel := by
  intro base c hbase
  obtain ⟨hhigh, -, hmsb⟩ := statusByte_fields base c hbase
  exact ⟨hhigh, lowNibble_statusByte c hbase, hmsb⟩

end Sys2Proof.Machine
end

section
/-! What one operation hands to the sink, as a list of whole messages (30_encoding.md R83, 20_memory.md R66). -/

namespace Sys2Proof.Machine

theorem domainOf_encoder {i : Instr} (h : isEncoderOp i = true) : domainOf i ≠ .boundary := by
  cases i with
  | dispatchIter sample before after => cases h
  | _ => simp [domainOf]

/-- Settles O40: the list holds an encoder operation's own message, an iteration's if it sends one, and otherwise
nothing. -/
theorem onlyWholeMessagesReachTheSink : Obligations.OnlyWholeMessagesReachTheSink := by
  intro i s
  obtain ⟨t, ht⟩ := exec_next i s
  refine ⟨t, ht, ?reset, fun hi => ?other⟩
  case reset =>
    rintro rfl
    cases ht
    rfl
  case other =>
    by_cases hb : domainOf i = .boundary
    · have he : isEncoderOp i ≠ true := fun he => domainOf_encoder he hb
      obtain hsame | ⟨m, hm, happend⟩ := trace_after hi ht
      · exact ⟨[], by simp [hsame], by simp, by simp, fun h => absurd h he, fun _ _ => rfl⟩
      · exact ⟨[m], by simp [happend], by simp [hm], by simp, fun _ => rfl, fun _ h => absurd hb h⟩
    · obtain ⟨htrace, -⟩ := trace_and_dispatcher_after hi hb ht
      by_cases he : isEncoderOp i = true
      · exact ⟨[messageOf i], by simp [htrace, he], by simp [messageOk_messageOf he], by simp, fun _ => rfl,
          by simp [he]⟩
      · exact ⟨[], by simp [htrace, he], by simp, by simp, fun h => absurd h he, fun _ _ => rfl⟩

end Sys2Proof.Machine
end

section
/-! The millisecond counter (40_time_source.md): `TICK` and `READ` one at a time and in sequences (R100, R101, R106),
and the elapsed time as 32-bit arithmetic (R102 to R104). -/

namespace Sys2Proof.Machine

theorem elapsedExact_of_le {t t0 : Word} (wrapAdj : Nat) (h : t0.toNat ≤ t.toNat) :
    elapsedExact wrapAdj t t0 = t.toNat - t0.toNat :=
  if_pos h

theorem elapsedExact_of_lt {t t0 : Word} (wrapAdj : Nat) (h : t.toNat < t0.toNat) :
    elapsedExact wrapAdj t t0 = (0xFFFFFFFF - t0.toNat) + t.toNat + wrapAdj :=
  if_neg h.not_ge

theorem elapsedExact_le_u32Max {wrapAdj : Nat} (hadj : wrapAdj ≤ 1) (t t0 : Word) :
    elapsedExact wrapAdj t t0 ≤ 0xFFFFFFFF := by
  obtain h | h := le_or_gt t0.toNat t.toNat
  · rw [elapsedExact_of_le wrapAdj h]; omega
  · rw [elapsedExact_of_lt wrapAdj h]; omega

theorem elapsedExact_zero_lt_u32Max {t t0 : Word} (h : t < t0) : elapsedExact 0 t t0 ≤ 0xFFFFFFFF - 1 := by
  rw [elapsedExact_of_lt 0 h]
  bv_omega

/-- Without a wrap the elapsed time is the difference of the readings. -/
theorem elapsed_eq_sub {t t0 : Word} (h : t0 ≤ t) : elapsed t t0 = t - t0 := by
  apply BitVec.eq_of_toNat_eq
  rw [elapsed_toNat, elapsedExact_of_le 0 h, BitVec.toNat_sub_of_le h]

/-- Across the wrap it is one less than the difference modulo 2^32. -/
theorem elapsed_eq_sub_sub_one {t t0 : Word} (h : t < t0) : elapsed t t0 = t - t0 - 1 := by
  apply BitVec.eq_of_toNat_eq
  rw [elapsed_toNat, elapsedExact_of_lt 0 h]
  bv_omega

/-- With `WRAP_ADJ = 1` it is the difference modulo 2^32 for all readings. -/
theorem elapsedWith_one_eq_sub (t t0 : Word) : elapsedWith 1 t t0 = t - t0 := by
  rw [elapsedWith]
  obtain h | h := le_or_gt t0.toNat t.toNat
  · rw [elapsedExact_of_le 1 h]; bv_omega
  · rw [elapsedExact_of_lt 1 h]; bv_omega

theorem toNat_sub_of_eq_add {t t0 : Word} {d : Nat} (hd : d ≤ 0xFFFFFFFF) (h : t = t0 + BitVec.ofNat 32 d) :
    (t - t0).toNat = d := by
  rw [h, add_sub_cancel_left, BitVec.toNat_ofNat]
  omega

theorem elapsed_toNat_of_le {t t0 : Word} {d : Nat} (hd : d ≤ 0xFFFFFFFF) (ht : t = t0 + BitVec.ofNat 32 d)
    (h : t0 ≤ t) : (elapsed t t0).toNat = d := by
  rw [elapsed_eq_sub h, toNat_sub_of_eq_add hd ht]

theorem elapsed_toNat_succ_of_lt {t t0 : Word} {d : Nat} (hd : d ≤ 0xFFFFFFFF) (ht : t = t0 + BitVec.ofNat 32 d)
    (h : t < t0) : (elapsed t t0).toNat + 1 = d := by
  have hsub := toNat_sub_of_eq_add hd ht
  rw [elapsed_eq_sub_sub_one h]
  bv_omega

/-- Settles O12: the elapsed time is the difference modulo 2^32, one less across the wrap, and that difference is the
number of ticks between the readings. -/
theorem elapsedIsOneShortAcrossTheWrap : Obligations.ElapsedIsOneShortAcrossTheWrap := by
  refine ⟨fun t0 d hd t ht => ?_, fun t t0 => ⟨elapsed_eq_sub_sub_one, elapsedWith_one_eq_sub t t0⟩⟩
  have hexact := elapsed_toNat_of_le hd ht
  have hshort := elapsed_toNat_succ_of_lt hd ht
  refine ⟨hexact, hshort, ?adjusted, fun threshold => ⟨fun h => ?unwrapped, fun h => ?wrapped⟩⟩
  case adjusted => rw [elapsedWith_one_eq_sub, toNat_sub_of_eq_add hd ht]
  case unwrapped => rw [exceeds_iff, hexact h]
  case wrapped => rw [exceeds_iff, ← hshort h, Nat.add_lt_add_iff_right]

/-- Settles O11: the bounds of each branch, and each branch in 32-bit arithmetic. -/
theorem elapsedFitsThe32BitDatapath : Obligations.ElapsedFitsThe32BitDatapath := by
  intro t t0
  refine ⟨fun _ => elapsedExact_le_u32Max (by decide) t t0, elapsedExact_zero_lt_u32Max,
    elapsedExact_le_u32Max le_rfl t t0, ?_⟩
  split
  case isTrue h => exact elapsed_eq_sub h
  case isFalse h =>
    rw [elapsed_eq_sub_sub_one (BitVec.not_le.mp h)]
    bv_omega

/-- Settles O10: the value returned is that of the branch the operands select. -/
theorem elapsedIsThePrintedFormula : Obligations.ElapsedIsThePrintedFormula := by
  intro t t0 s
  refine ⟨elapsed t t0, exec_elapsed t t0 s, fun h => ?_, fun h => ?_⟩
  · rw [elapsed_toNat, elapsedExact_of_le 0 h]
  · rw [elapsed_toNat, elapsedExact_of_lt 0 h, Nat.add_zero]

theorem decode_eq_tick_iff (e : Event) : decode e = .ok .tick ↔ e = .tick := by
  constructor
  · exact fun h => (domainOf_decode_interrupt_iff h).mp rfl
  · rintro rfl; rfl

/-- Settles O8: the increment of R100, and the tick port as the one source of the interrupt domain. -/
theorem tickIncrementsTheCounterOnly : Obligations.TickIncrementsTheCounterOnly :=
  ⟨fun s => ⟨tickOnce s, exec_tick s, BitVec.toNat_add s.msCount 1, rfl⟩, decode_eq_tick_iff⟩

theorem decodeRequest_eq_read_iff (r : Request) : decodeRequest r = .ok .read ↔ r.opSel = 0x1 := by
  constructor
  · intro h
    unfold decodeRequest at h
    split at h <;> cases h
    next hcode => exact BitVec.eq_of_toNat_eq hcode
  · intro h
    simp [decodeRequest, h]

theorem countOut_readCount (s : State) : countOut (readCount s) = some s.msCount := by
  rw [countOut, readCount, respond, List.reverse_append]
  rfl

/-- Settles O9: the result `READ` appends is the latest counter value, and only the request port's code 1 decodes
to it. -/
theorem readReturnsTheCounter : Obligations.ReadReturnsTheCounter := by
  refine ⟨fun s => ⟨readCount s, exec_read s, countOut_readCount s, rfl⟩, fun e => ?_⟩
  cases e with
  | request r => simp [decode, decodeRequest_eq_read_iff]
  | _ => simp [decode]

theorem tickTotal_cons (i : Instr) (is : List Instr) : tickTotal (i :: is) = tickCount i + tickTotal is := rfl

/-- What a sequence of operations without `RESET` does to the counter. -/
theorem count_after_all {is : List Instr} {s t : State} (hreset : .reset ∉ is) (h : execAll is s = .next t) :
    t.msCount = s.msCount + BitVec.ofNat 32 (tickTotal is) := by
  induction is generalizing s with
  | nil => cases h; simp [tickTotal]
  | cons i rest ih =>
      obtain ⟨hi, hrest⟩ := not_or.mp (mt List.mem_cons.mpr hreset)
      obtain ⟨u, hu⟩ := exec_next i s
      simp only [execAll, hu] at h
      rw [ih hrest h, count_after (Ne.symm hi) hu, tickTotal_cons, BitVec.ofNat_add, BitVec.add_assoc]

theorem le_add_ofNat {w : Word} {n : Nat} (h : w.toNat + n ≤ 0xFFFFFFFF) : w ≤ w + BitVec.ofNat 32 n := by
  rw [BitVec.le_def, BitVec.toNat_add, BitVec.toNat_ofNat]
  omega

/-- Settles O13: the second `READ` returns the counter as the operations since the first have left it. -/
theorem laterReadsCountTheTicks : Obligations.LaterReadsCountTheTicks := by
  refine ⟨fun i s t => count_after, fun is s hreset => ?_⟩
  obtain ⟨u, hu⟩ := execAll_next (.read :: is) s
  have hcount : u.msCount = s.msCount + BitVec.ofNat 32 (tickTotal is) :=
    count_after_all (s := readCount s) hreset hu
  refine ⟨readCount u, execAll_append _ _ s u hu, ?_, fun hend => ?_⟩
  · rw [countOut_readCount, hcount]
  · calc s.msCount ≤ s.msCount + BitVec.ofNat 32 (tickTotal is) := le_add_ofNat hend
      _ = (readCount u).msCount := hcount.symm

end Sys2Proof.Machine
end

section
/-! What one readable poll does to the button, transition by transition (41_debouncer.md R122 to R133, R137). -/

namespace Sys2Proof.Machine

/-- R137: the poll meets the condition of one of the six transitions; otherwise it stays. -/
def moves (raw : Bool) (now : Word) (b : Button) : Prop :=
  takesT1 raw b ∨ takesT2 raw now b ∨ takesT3 raw now b ∨ takesT4 raw b ∨ takesT5 raw now b ∨ takesT6 raw now b

theorem moves_off_iff {raw : Bool} {now : Word} {b : Button} (h : b.fsm = .off) :
    moves raw now b ↔ raw = true := by
  simp [moves, takesT1, takesT2, takesT3, takesT4, takesT5, takesT6, h]

theorem moves_on_iff {raw : Bool} {now : Word} {b : Button} (h : b.fsm = .on) :
    moves raw now b ↔ raw = false := by
  simp [moves, takesT1, takesT2, takesT3, takesT4, takesT5, takesT6, h]

theorem moves_debouncingOn_iff {raw : Bool} {now : Word} {b : Button} (h : b.fsm = .debouncingOn) :
    moves raw now b ↔ (if raw then b.confirmMs.toNat else b.timeoutMs.toNat) < (elapsed now b.onStart).toNat := by
  cases raw <;> simp [moves, takesT1, takesT2, takesT3, takesT4, takesT5, takesT6, h]

theorem moves_debouncingOff_iff {raw : Bool} {now : Word} {b : Button} (h : b.fsm = .debouncingOff) :
    moves raw now b ↔ (if raw then b.timeoutMs.toNat else b.confirmMs.toNat) < (elapsed now b.offStart).toNat := by
  cases raw <;> simp [moves, takesT1, takesT2, takesT3, takesT4, takesT5, takesT6, h]

section
variable {raw : Bool} {now : Word} {b : Button}

theorem pollButton_of_takesT1 (h : takesT1 raw b) : pollButton raw now b = beginActivation now (snapshot b) := by
  obtain ⟨hfsm, rfl⟩ := h
  rw [pollButton_off _ _ _ hfsm, if_pos rfl]

theorem pollButton_of_takesT2 (h : takesT2 raw now b) : pollButton raw now b = confirmActivation (snapshot b) := by
  obtain ⟨hfsm, rfl, hover⟩ := h
  rw [pollButton_debouncingOn _ _ _ hfsm, (exceeds_iff _ b.confirmMs).mpr hover]
  rfl

theorem pollButton_of_takesT3 (h : takesT3 raw now b) : pollButton raw now b = rejectActivation (snapshot b) := by
  obtain ⟨hfsm, rfl, hover⟩ := h
  rw [pollButton_debouncingOn _ _ _ hfsm, (exceeds_iff _ b.timeoutMs).mpr hover]
  rfl

theorem pollButton_of_takesT4 (h : takesT4 raw b) : pollButton raw now b = beginDeactivation now (snapshot b) := by
  obtain ⟨hfsm, rfl⟩ := h
  rw [pollButton_on _ _ _ hfsm]
  rfl

theorem pollButton_of_takesT5 (h : takesT5 raw now b) :
    pollButton raw now b = confirmDeactivation (snapshot b) := by
  obtain ⟨hfsm, rfl, hover⟩ := h
  rw [pollButton_debouncingOff _ _ _ hfsm, (exceeds_iff _ b.confirmMs).mpr hover]
  rfl

theorem pollButton_of_takesT6 (h : takesT6 raw now b) : pollButton raw now b = escapeDeactivation (snapshot b) := by
  obtain ⟨hfsm, rfl, hover⟩ := h
  rw [pollButton_debouncingOff _ _ _ hfsm, (exceeds_iff _ b.timeoutMs).mpr hover]
  rfl

/-- R125, R128, R130, R133: a stay writes the snapshot and nothing else. -/
theorem pollButton_of_not_moves (h : ¬ moves raw now b) : pollButton raw now b = snapshot b := by
  cases hfsm : b.fsm
  case off =>
    rw [moves_off_iff hfsm] at h
    rw [pollButton_off _ _ _ hfsm, if_neg h]
  case on =>
    rw [moves_on_iff hfsm, Bool.not_eq_false] at h
    rw [pollButton_on _ _ _ hfsm, if_pos h]
  case debouncingOn =>
    rw [moves_debouncingOn_iff hfsm, not_lt] at h
    rw [pollButton_debouncingOn _ _ _ hfsm]
    cases raw <;> simp [(not_exceeds_iff _ _).mpr h]
  case debouncingOff =>
    rw [moves_debouncingOff_iff hfsm, not_lt] at h
    rw [pollButton_debouncingOff _ _ _ hfsm]
    cases raw <;> simp [(not_exceeds_iff _ _).mpr h]

/-- Everything a readable poll can do. -/
theorem pollButton_cases (raw : Bool) (now : Word) (b : Button) :
    (takesT1 raw b ∧ pollButton raw now b = beginActivation now (snapshot b)) ∨
    (takesT2 raw now b ∧ pollButton raw now b = confirmActivation (snapshot b)) ∨
    (takesT3 raw now b ∧ pollButton raw now b = rejectActivation (snapshot b)) ∨
    (takesT4 raw b ∧ pollButton raw now b = beginDeactivation now (snapshot b)) ∨
    (takesT5 raw now b ∧ pollButton raw now b = confirmDeactivation (snapshot b)) ∨
    (takesT6 raw now b ∧ pollButton raw now b = escapeDeactivation (snapshot b)) ∨
    (¬ moves raw now b ∧ pollButton raw now b = snapshot b) := by
  by_cases hm : moves raw now b
  · obtain h | h | h | h | h | h := hm
    · exact .inl ⟨h, pollButton_of_takesT1 h⟩
    · exact .inr (.inl ⟨h, pollButton_of_takesT2 h⟩)
    · exact .inr (.inr (.inl ⟨h, pollButton_of_takesT3 h⟩))
    · exact .inr (.inr (.inr (.inl ⟨h, pollButton_of_takesT4 h⟩)))
    · exact .inr (.inr (.inr (.inr (.inl ⟨h, pollButton_of_takesT5 h⟩))))
    · exact .inr (.inr (.inr (.inr (.inr (.inl ⟨h, pollButton_of_takesT6 h⟩)))))
  · exact .inr (.inr (.inr (.inr (.inr (.inr ⟨hm, pollButton_of_not_moves hm⟩)))))

end

end Sys2Proof.Machine
end

section
/-! The arms of a poll as whole next states (41_debouncer.md R124 to R134), and the writes of the timestamps (R135). -/

namespace Sys2Proof.Machine

theorem exec_poll_ok (raw : Bool) (now : Word) (s : State) :
    exec (.poll (.ok raw) now) s = .next { s with
      button := pollButton raw now s.button, results := s.results ++ [.poll .done] } := rfl

theorem exec_poll_of_not_moves {raw : Bool} {now : Word} {s : State} (h : ¬ moves raw now s.button) :
    exec (.poll (.ok raw) now) s = .next { s with
      button := { s.button with prevState := s.button.state }, results := s.results ++ [.poll .done] } := by
  rw [exec_poll_ok, pollButton_of_not_moves h]
  rfl

theorem pollButton_fsm_ne_iff (raw : Bool) (now : Word) (b : Button) :
    (pollButton raw now b).fsm ≠ b.fsm ↔ moves raw now b := by
  constructor
  · contrapose!
    intro h
    rw [pollButton_of_not_moves h, snapshot_fsm]
  · rintro (h | h | h | h | h | h)
    · simp [pollButton_of_takesT1 h, h.1]
    · simp [pollButton_of_takesT2 h, h.1]
    · simp [pollButton_of_takesT3 h, h.1]
    · simp [pollButton_of_takesT4 h, h.1]
    · simp [pollButton_of_takesT5 h, h.1]
    · simp [pollButton_of_takesT6 h, h.1]

/-- Settles O22: a poll that meets a condition takes its transition, and every transition leaves its state. -/
theorem transitionsAreExactlyTheSix : Obligations.TransitionsAreExactlyTheSix := by
  intro s raw now
  refine ⟨_, exec_poll_ok raw now s, pollButton_fsm_ne_iff raw now s.button, fun h => ?t1, fun h => ?t2,
    fun h => ?t3, fun h => ?t4, fun h => ?t5, fun h => ?t6⟩
  case t1 => simp [pollButton_of_takesT1 h]
  case t2 => simp [pollButton_of_takesT2 h]
  case t3 => simp [pollButton_of_takesT3 h]
  case t4 => simp [pollButton_of_takesT4 h]
  case t5 => simp [pollButton_of_takesT5 h]
  case t6 => simp [pollButton_of_takesT6 h]

theorem pollButton_onStart_of_not_takesT1 {raw : Bool} {b : Button} (now : Word) (h : ¬ takesT1 raw b) :
    (pollButton raw now b).onStart = b.onStart := by
  obtain ⟨h1, -⟩ | ⟨-, heq⟩ | ⟨-, heq⟩ | ⟨-, heq⟩ | ⟨-, heq⟩ | ⟨-, heq⟩ | ⟨-, heq⟩ := pollButton_cases raw now b
  · exact absurd h1 h
  all_goals simp [heq]

theorem pollButton_offStart_of_not_takesT4 {raw : Bool} {b : Button} (now : Word) (h : ¬ takesT4 raw b) :
    (pollButton raw now b).offStart = b.offStart := by
  obtain ⟨-, heq⟩ | ⟨-, heq⟩ | ⟨-, heq⟩ | ⟨h4, -⟩ | ⟨-, heq⟩ | ⟨-, heq⟩ | ⟨-, heq⟩ := pollButton_cases raw now b
  case inr.inr.inr.inl => exact absurd h4 h
  all_goals simp [heq]

/-- Settles O25: the one poll of the operation, if it performs one, and the writes of T1 and T4. -/
theorem timestampsRecordFirstEdges : Obligations.TimestampsRecordFirstEdges := by
  intro i s t hi h
  have hbutton := button_after hi h
  refine ⟨fun raw now hp => ?polls, fun hp => ?other⟩
  case polls =>
    simp only [hp] at hbutton
    rw [hbutton]
    exact ⟨fun h1 => by simp [pollButton_of_takesT1 h1], pollButton_onStart_of_not_takesT1 now,
      fun h4 => by simp [pollButton_of_takesT4 h4], pollButton_offStart_of_not_takesT4 now⟩
  case other =>
    simp only [hp] at hbutton
    rw [hbutton]
    exact ⟨rfl, rfl⟩

/-- A register of the button that an operation other than `RESET` has changed was changed by the poll it performs. -/
theorem polled_of_register_ne {α : Type} (f : Button → α) {i : Instr} {s t : State} (hi : i ≠ .reset)
    (h : exec i s = .next t) (hne : f t.button ≠ f s.button) :
    ∃ raw now, polled i s = some (raw, now) ∧ f (pollButton raw now s.button) ≠ f s.button := by
  rw [button_after hi h] at hne
  split at hne
  · next raw now hp => exact ⟨raw, now, hp, hne⟩
  · exact absurd rfl hne

/-- Settles O14: T1 and the stay of `Off`; a changed `on_start` is T1's. -/
theorem pollInOff : Obligations.PollInOff := by
  refine ⟨fun s now hfsm => ⟨?t1, ?stay⟩, fun i s t hi h hne => ?onlyT1⟩
  case t1 => rw [exec_poll_ok, pollButton_of_takesT1 ⟨hfsm, rfl⟩]; rfl
  case stay => exact exec_poll_of_not_moves (by simp [moves_off_iff hfsm])
  case onlyT1 =>
    obtain ⟨raw, now, hp, hwrite⟩ := polled_of_register_ne Button.onStart hi h hne
    obtain ⟨hfsm, rfl⟩ := not_imp_comm.mp (pollButton_onStart_of_not_takesT1 now) hwrite
    exact ⟨hfsm, now, hp⟩

/-- Settles O16: T4 and the stay of `On`; a changed `off_start` is T4's. -/
theorem pollInOn : Obligations.PollInOn := by
  refine ⟨fun s now hfsm => ⟨?t4, ?stay⟩, fun i s t hi h hne => ?onlyT4⟩
  case t4 => rw [exec_poll_ok, pollButton_of_takesT4 ⟨hfsm, rfl⟩]; rfl
  case stay => exact exec_poll_of_not_moves (by simp [moves_on_iff hfsm])
  case onlyT4 =>
    obtain ⟨raw, now, hp, hwrite⟩ := polled_of_register_ne Button.offStart hi h hne
    obtain ⟨hfsm, rfl⟩ := not_imp_comm.mp (pollButton_offStart_of_not_takesT4 now) hwrite
    exact ⟨hfsm, now, hp⟩

/-- Settles O15: T2, T3 and the stays on the other side of each threshold; a changed `toggle` is T2's. -/
theorem pollInDebouncingOn : Obligations.PollInDebouncingOn := by
  refine ⟨fun s now hfsm => ⟨fun hover => ?t2, fun hle => ?stayTrue, fun hover => ?t3, fun hle => ?stayFalse⟩,
    fun i s t hi h hne => ?onlyT2⟩
  case t2 => rw [exec_poll_ok, pollButton_of_takesT2 ⟨hfsm, rfl, hover⟩]; rfl
  case stayTrue => exact exec_poll_of_not_moves (by simpa [moves_debouncingOn_iff hfsm] using hle)
  case t3 => rw [exec_poll_ok, pollButton_of_takesT3 ⟨hfsm, rfl, hover⟩]; rfl
  case stayFalse => exact exec_poll_of_not_moves (by simpa [moves_debouncingOn_iff hfsm] using hle)
  case onlyT2 =>
    obtain ⟨raw, now, hp, hfsm, rfl, hover⟩ := (toggleFlipsExactlyOnActivation i s t hi h).mp hne
    exact ⟨now, hp, hfsm, rfl, hover⟩

/-- Settles O17: T5, T6 and the stays on the other side of each threshold. -/
theorem pollInDebouncingOff : Obligations.PollInDebouncingOff := by
  refine fun s now hfsm => ⟨fun hover => ?t5, fun hle => ?stayFalse, fun hover => ?t6, fun hle => ?stayTrue⟩
  case t5 => rw [exec_poll_ok, pollButton_of_takesT5 ⟨hfsm, rfl, hover⟩]; rfl
  case stayFalse => exact exec_poll_of_not_moves (by simpa [moves_debouncingOff_iff hfsm] using hle)
  case t6 => rw [exec_poll_ok, pollButton_of_takesT6 ⟨hfsm, rfl, hover⟩]; rfl
  case stayTrue => exact exec_poll_of_not_moves (by simpa [moves_debouncingOff_iff hfsm] using hle)

/-- Settles O18: the fault check comes before the snapshot. -/
theorem faultedPollWritesNothing : Obligations.FaultedPollWritesNothing :=
  fun s now => ⟨poll .fault now s, exec_poll .fault now s, pollResult_poll .fault now s, poll_fault now s⟩

end Sys2Proof.Machine
end

section
/-! The confirmations T2 and T5 and the edge they show (10_state.md R31, 41_debouncer.md R122), polling twice (R138), and
the corner cases of time (R143). -/

namespace Sys2Proof.Machine

theorem deactivates_iff (b : Button) (raw : Bool) (now : Word) :
    deactivates b raw now = true ↔ takesT5 raw now b := by
  simp [deactivates]

theorem pollButton_state_of_not_confirms {raw : Bool} {now : Word} {b : Button} (h2 : ¬ takesT2 raw now b)
    (h5 : ¬ takesT5 raw now b) : (pollButton raw now b).state = b.state := by
  obtain ⟨-, heq⟩ | ⟨h, -⟩ | ⟨-, heq⟩ | ⟨-, heq⟩ | ⟨h, -⟩ | ⟨-, heq⟩ | ⟨-, heq⟩ := pollButton_cases raw now b
  case inr.inl => exact absurd h h2
  case inr.inr.inr.inr.inl => exact absurd h h5
  all_goals simp [heq]

/-- In a coupled button T2 turns `state` on, T5 turns it off, and no other poll changes it. -/
theorem pollButton_state_cases {b : Button} (raw : Bool) (now : Word) (hb : coupled b = true) :
    (activates b raw now = true ∧ deactivates b raw now = false ∧
      b.state = false ∧ (pollButton raw now b).state = true) ∨
    (activates b raw now = false ∧ deactivates b raw now = true ∧
      b.state = true ∧ (pollButton raw now b).state = false) ∨
    (activates b raw now = false ∧ deactivates b raw now = false ∧
      (pollButton raw now b).state = b.state) := by
  by_cases h2 : takesT2 raw now b
  · refine .inl ⟨(activates_iff b raw now).mpr h2, by simp [deactivates, h2.1], ?_, by simp [pollButton_of_takesT2 h2]⟩
    simpa [coupled, h2.1] using hb
  by_cases h5 : takesT5 raw now b
  · refine .inr (.inl ⟨by simp [activates, h5.1], (deactivates_iff b raw now).mpr h5, ?_,
      by simp [pollButton_of_takesT5 h5]⟩)
    simpa [coupled, h5.1] using hb
  · exact .inr (.inr ⟨Bool.eq_false_iff.mpr ((activates_iff b raw now).not.mpr h2),
      Bool.eq_false_iff.mpr ((deactivates_iff b raw now).not.mpr h5), pollButton_state_of_not_confirms h2 h5⟩)

theorem pollButton_prevState (raw : Bool) (now : Word) (b : Button) : (pollButton raw now b).prevState = b.state :=
  (pollButton_always raw now b).2.2

theorem risesAfter_eq_activates {b : Button} (raw : Bool) (now : Word) (hb : coupled b = true) :
    risesAfter b raw now = activates b raw now := by
  obtain ⟨ha, -, hs, hs'⟩ | ⟨ha, -, hs, hs'⟩ | ⟨ha, -, hs'⟩ := pollButton_state_cases raw now hb <;>
    simp [risesAfter, rising, edge, pollButton_prevState, *]

theorem fallsAfter_eq_deactivates {b : Button} (raw : Bool) (now : Word) (hb : coupled b = true) :
    fallsAfter b raw now = deactivates b raw now := by
  obtain ⟨-, hd, hs, hs'⟩ | ⟨-, hd, hs, hs'⟩ | ⟨-, hd, hs'⟩ := pollButton_state_cases raw now hb <;>
    simp [fallsAfter, falling, edge, pollButton_prevState, *]

theorem edge_eq_rising_or_falling (b : Button) : edge b = (rising b || falling b) := by
  simp only [rising, falling]
  cases edge b <;> cases b.state <;> rfl

theorem edge_pollButton_iff {b : Button} (raw : Bool) (now : Word) (hb : coupled b = true) :
    edge (pollButton raw now b) = true ↔ takesT2 raw now b ∨ takesT5 raw now b := by
  have hrises : rising (pollButton raw now b) = activates b raw now := risesAfter_eq_activates raw now hb
  have hfalls : falling (pollButton raw now b) = deactivates b raw now := fallsAfter_eq_deactivates raw now hb
  rw [edge_eq_rising_or_falling, hrises, hfalls, Bool.or_eq_true, activates_iff, deactivates_iff]

/-- A confirmation leaves `On` or `Off`, where no poll confirms. -/
theorem edge_pollButton_pollButton {raw : Bool} {now : Word} {b : Button} (hb : coupled b = true)
    (hedge : edge (pollButton raw now b) = true) (raw' : Bool) (now' : Word) :
    edge (pollButton raw' now' (pollButton raw now b)) = false := by
  rw [Bool.eq_false_iff, Ne, edge_pollButton_iff raw' now' (coupled_pollButton raw now hb)]
  obtain h2 | h5 := (edge_pollButton_iff raw now hb).mp hedge
  · simp [pollButton_of_takesT2 h2, takesT2, takesT5]
  · simp [pollButton_of_takesT5 h5, takesT2, takesT5]

/-- Settles O23: in a coupled button exactly the confirmations change `state`, and two never follow each other. -/
theorem edgeExactlyAfterConfirmation : Obligations.EdgeExactlyAfterConfirmation := by
  intro s t raw now hs ht
  cases ht
  refine ⟨pollButton_prevState raw now s.button, edge_pollButton_iff raw now hs, fun hedge raw' now' u hu => ?_⟩
  cases hu
  exact edge_pollButton_pollButton hs hedge raw' now'

theorem not_moves_of_now_eq_onStart {raw : Bool} {now : Word} {b : Button} (hfsm : b.fsm = .debouncingOn)
    (hnow : now = b.onStart) : ¬ moves raw now b := by
  simp [moves_debouncingOn_iff hfsm, hnow, elapsed_self]

theorem not_moves_of_now_eq_offStart {raw : Bool} {now : Word} {b : Button} (hfsm : b.fsm = .debouncingOff)
    (hnow : now = b.offStart) : ¬ moves raw now b := by
  simp [moves_debouncingOff_iff hfsm, hnow, elapsed_self]

/-- R138: whatever a poll did, the same poll again stays. -/
theorem not_moves_pollButton (raw : Bool) (now : Word) (b : Button) : ¬ moves raw now (pollButton raw now b) := by
  obtain ⟨-, heq⟩ | ⟨⟨-, rfl, -⟩, heq⟩ | ⟨⟨-, rfl, -⟩, heq⟩ | ⟨-, heq⟩ | ⟨⟨-, rfl, -⟩, heq⟩ | ⟨⟨-, rfl, -⟩, heq⟩ |
    ⟨hstay, heq⟩ := pollButton_cases raw now b
  · rw [heq]; exact not_moves_of_now_eq_onStart rfl rfl
  · rw [heq, moves_on_iff rfl]; decide
  · rw [heq, moves_off_iff rfl]; decide
  · rw [heq]; exact not_moves_of_now_eq_offStart rfl rfl
  · rw [heq, moves_off_iff rfl]; decide
  · rw [heq, moves_on_iff rfl]; decide
  · rw [heq]; exact hstay

/-- Settles O27: the second poll stays, so it writes its snapshot only. -/
theorem pollingTwiceIsPollingOnce : Obligations.PollingTwiceIsPollingOnce :=
  fun s raw now => ⟨_, _, exec_poll_ok raw now s, exec_poll_ok raw now _,
    pollButton_of_not_moves (not_moves_pollButton raw now s.button)⟩

/-- Settles O32: at the start no time has elapsed, a time before the start is measured across the wrap, and no elapsed
time exceeds `U32_MAX`. -/
theorem thresholdCornerCases : Obligations.ThresholdCornerCases := by
  intro s raw now
  refine ⟨_, exec_poll_ok raw now s, fun hfsm hnow => ?startOn, fun hfsm hnow => ?startOff,
    fun hfsm hraw hback hconfirm => ?backwards, fun hmax => ?largest⟩
  case startOn => simpa [pollButton_of_not_moves (not_moves_of_now_eq_onStart hfsm hnow)] using hfsm
  case startOff => simpa [pollButton_of_not_moves (not_moves_of_now_eq_offStart hfsm hnow)] using hfsm
  case backwards =>
    have hover : s.button.confirmMs.toNat < (elapsed now s.button.onStart).toNat := by
      rw [elapsed_toNat, elapsedExact_of_lt 0 hback]
      omega
    simp [pollButton_of_takesT2 ⟨hfsm, hraw, hover⟩]
  case largest =>
    have hnever (e : Word) : ¬ s.button.confirmMs.toNat < e.toNat := by
      rw [hmax]
      exact Nat.not_lt.mpr (Nat.le_of_lt_succ e.isLt)
    have h2 : ¬ takesT2 raw now s.button := fun h => hnever _ h.2.2
    have h5 : ¬ takesT5 raw now s.button := fun h => hnever _ h.2.2
    exact ⟨pollButton_state_of_not_confirms h2 h5, not_imp_comm.mp (pollButton_toggle_ne_iff raw now s.button).mp h2⟩

end Sys2Proof.Machine
end

section
/-! Sequences of polls: those that stay may be left out, episodes and bounces (41_debouncer.md R140 to R142), and the
counts of the confirmations (R136). -/

namespace Sys2Proof.Machine

/-- The button after a sequence of readable polls. -/
def pollButtons (ps : List (Bool × Word)) (b : Button) : Button := ps.foldl (fun b p => pollButton p.1 p.2 b) b

@[simp] theorem pollButtons_nil (b : Button) : pollButtons [] b = b := rfl

@[simp] theorem pollButtons_cons (p : Bool × Word) (ps : List (Bool × Word)) (b : Button) :
    pollButtons (p :: ps) b = pollButtons ps (pollButton p.1 p.2 b) := rfl

@[simp] theorem pollButtons_append (ps qs : List (Bool × Word)) (b : Button) :
    pollButtons (ps ++ qs) b = pollButtons qs (pollButtons ps b) :=
  List.foldl_append

theorem execAll_pollsOf_button (ps : List (Bool × Word)) (s : State) :
    ∃ t, execAll (pollsOf ps) s = .next t ∧ t.button = pollButtons ps s.button :=
  execAll_pollsOf ps s

/-- Two buttons have the same snapshot exactly if they differ in `prev_state` at most. -/
theorem snapshot_eq_iff (b c : Button) : snapshot b = snapshot c ↔
    b.fsm = c.fsm ∧ b.state = c.state ∧ b.toggle = c.toggle ∧ b.onStart = c.onStart ∧ b.offStart = c.offStart ∧
      b.confirmMs = c.confirmMs ∧ b.timeoutMs = c.timeoutMs := by
  simp only [snapshot, Button.mk.injEq]
  tauto

/-- A poll reads its button's snapshot only. -/
theorem pollButton_congr {b c : Button} (raw : Bool) (now : Word) (h : snapshot b = snapshot c) :
    pollButton raw now b = pollButton raw now c := by
  rw [pollButton, h, pollButton]

theorem snapshot_pollButtons_of_not_moves {ps : List (Bool × Word)} {b : Button}
    (h : ∀ p ∈ ps, ¬ moves p.1 p.2 b) : snapshot (pollButtons ps b) = snapshot b := by
  induction ps generalizing b with
  | nil => rfl
  | cons p rest ih =>
      obtain ⟨hp, hrest⟩ := List.forall_mem_cons.mp h
      rw [pollButtons_cons, pollButton_of_not_moves hp]
      exact ih (b := snapshot b) hrest

theorem not_moves_of_undecided_on {ps : List (Bool × Word)} {b : Button} (hfsm : b.fsm = .debouncingOn)
    (h : undecided b.onStart b.confirmMs b.timeoutMs ps) : ∀ p ∈ ps, ¬ moves p.1 p.2 b := by
  intro p hp
  rw [moves_debouncingOn_iff hfsm, not_lt]
  exact h p hp

theorem not_moves_of_undecided_off {ps : List (Bool × Word)} {b : Button} (hfsm : b.fsm = .debouncingOff)
    (h : undecided b.offStart b.timeoutMs b.confirmMs ps) : ∀ p ∈ ps, ¬ moves p.1 p.2 b := by
  intro p hp
  rw [moves_debouncingOff_iff hfsm, not_lt]
  exact h p hp

section
variable {a c : Word} {ps : List (Bool × Word)} {b : Button}

/-- R128, R219: T1 and undecided polls leave a debouncing episode that began at T1's time. -/
theorem snapshot_activation_episode (hfsm : b.fsm = .off) (h : undecided a b.confirmMs b.timeoutMs ps) :
    snapshot (pollButtons ((true, a) :: ps) b) = snapshot { b with fsm := .debouncingOn, onStart := a } := by
  rw [pollButtons_cons, pollButton_of_takesT1 ⟨hfsm, rfl⟩]
  exact snapshot_pollButtons_of_not_moves (not_moves_of_undecided_on rfl h)

/-- R133, R219: the mirror image after T4. -/
theorem snapshot_deactivation_episode (hfsm : b.fsm = .on) (h : undecided a b.timeoutMs b.confirmMs ps) :
    snapshot (pollButtons ((false, a) :: ps) b) = snapshot { b with fsm := .debouncingOff, offStart := a } := by
  rw [pollButtons_cons, pollButton_of_takesT4 ⟨hfsm, rfl⟩]
  exact snapshot_pollButtons_of_not_moves (not_moves_of_undecided_off rfl h)

theorem activation_confirmed (hfsm : b.fsm = .off) (h : undecided a b.confirmMs b.timeoutMs ps)
    (hover : b.confirmMs.toNat < (elapsed c a).toNat) :
    pollButtons ((true, a) :: ps ++ [(true, c)]) b =
      { b with fsm := .on, state := true, toggle := !b.toggle, prevState := b.state, onStart := a } := by
  rw [pollButtons_append, pollButtons_cons, pollButtons_nil,
    pollButton_congr true c (snapshot_activation_episode hfsm h), pollButton_of_takesT2 ⟨rfl, rfl, hover⟩]
  rfl

theorem deactivation_confirmed (hfsm : b.fsm = .on) (h : undecided a b.timeoutMs b.confirmMs ps)
    (hover : b.confirmMs.toNat < (elapsed c a).toNat) :
    pollButtons ((false, a) :: ps ++ [(false, c)]) b =
      { b with fsm := .off, state := false, prevState := b.state, offStart := a } := by
  rw [pollButtons_append, pollButtons_cons, pollButtons_nil,
    pollButton_congr false c (snapshot_deactivation_episode hfsm h), pollButton_of_takesT5 ⟨rfl, rfl, hover⟩]
  rfl

end

/-- Settles O29: undecided polls leave the episode as it began, so the confirming poll confirms. -/
theorem bouncesDoNotRestartTheEpisode : Obligations.BouncesDoNotRestartTheEpisode := by
  intro s a c ps hover
  refine ⟨fun hfsm hps => ?activation, fun hfsm hps => ?deactivation⟩
  case activation =>
    obtain ⟨t, ht, hbutton⟩ := execAll_pollsOf_button ((true, a) :: ps ++ [(true, c)]) s
    rw [activation_confirmed hfsm hps hover] at hbutton
    exact ⟨t, ht, by simp [hbutton]⟩
  case deactivation =>
    obtain ⟨t, ht, hbutton⟩ := execAll_pollsOf_button ((false, a) :: ps ++ [(false, c)]) s
    rw [deactivation_confirmed hfsm hps hover] at hbutton
    exact ⟨t, ht, by simp [hbutton]⟩

/-- Polls with an asserted sample at these times. -/
def held (ws : List Word) : List (Bool × Word) := ws.map fun w => (true, w)

theorem undecided_held {ws : List Word} {a whenTrue : Word} (whenFalse : Word)
    (h : ∀ w ∈ ws, (elapsed w a).toNat ≤ whenTrue.toNat) : undecided a whenTrue whenFalse (held ws) := by
  simpa [undecided, held] using h

theorem snapshot_held_on (ws : List Word) {b : Button} (hfsm : b.fsm = .on) :
    snapshot (pollButtons (held ws) b) = snapshot b :=
  snapshot_pollButtons_of_not_moves (by simp [held, moves_on_iff hfsm])

/-- Settles O28: up to the threshold the episode is undecided, the poll past it confirms, and in `On` asserted polls
stay. -/
theorem heldPressConfirmsOnce : Obligations.HeldPressConfirmsOnce := by
  intro s a c early late hfsm hearly hover
  have hund := undecided_held s.button.timeoutMs hearly
  constructor
  · obtain ⟨t, ht, hbutton⟩ := execAll_pollsOf_button ((true, a) :: held early) s
    have hepisode := snapshot_activation_episode hfsm hund
    rw [← hbutton, snapshot_eq_iff] at hepisode
    obtain ⟨hfsm', hstate, htoggle, -⟩ := hepisode
    exact ⟨t, ht, hfsm', hstate, htoggle⟩
  · have hlist : (a :: early ++ c :: late).map (fun w => (true, w))
        = ((true, a) :: held early ++ [(true, c)]) ++ held late := by simp [held]
    obtain ⟨t, ht, hbutton⟩ := execAll_pollsOf_button (((true, a) :: held early ++ [(true, c)]) ++ held late) s
    rw [pollButtons_append, activation_confirmed hfsm hund hover] at hbutton
    have hlate := snapshot_held_on late (b := { s.button with
      fsm := .on, state := true, toggle := !s.button.toggle, prevState := s.button.state, onStart := a }) rfl
    rw [← hbutton, snapshot_eq_iff] at hlate
    obtain ⟨hfsm', hstate, htoggle, -⟩ := hlate
    exact ⟨t, hlist ▸ ht, hfsm', hstate, htoggle⟩

/-- R141: a rejected bounce leaves its start time and nothing else. -/
theorem snapshot_bounce {x : Bounce} {b : Button} (hfsm : b.fsm = .off)
    (h : bounceRejected b.confirmMs b.timeoutMs x) :
    snapshot (pollButtons (bouncePolls x) b) = snapshot { b with fsm := .off, onStart := x.start } := by
  obtain ⟨hund, hover⟩ := h
  rw [bouncePolls, pollButtons_append, pollButtons_cons,
    pollButton_congr false x.rejected (snapshot_activation_episode hfsm hund),
    pollButton_of_takesT3 ⟨rfl, rfl, hover⟩]
  refine snapshot_pollButtons_of_not_moves fun p hp => ?_
  obtain ⟨w, -, rfl⟩ := List.mem_map.mp hp
  rw [moves_off_iff rfl]
  exact Bool.false_ne_true

theorem bounces_keep {xs : List Bounce} {b : Button} (hfsm : b.fsm = .off)
    (h : ∀ x ∈ xs, bounceRejected b.confirmMs b.timeoutMs x) :
    (pollButtons (xs.flatMap bouncePolls) b).fsm = .off ∧
      (pollButtons (xs.flatMap bouncePolls) b).state = b.state ∧
      (pollButtons (xs.flatMap bouncePolls) b).toggle = b.toggle := by
  induction xs generalizing b with
  | nil => exact ⟨hfsm, rfl, rfl⟩
  | cons x xs ih =>
      obtain ⟨hx, hxs⟩ := List.forall_mem_cons.mp h
      obtain ⟨hfsm', hstate, htoggle, -, -, hconfirm, htimeout⟩ := (snapshot_eq_iff _ _).mp (snapshot_bounce hfsm hx)
      rw [List.flatMap_cons, pollButtons_append, ← hstate, ← htoggle]
      exact ih hfsm' (by rwa [hconfirm, htimeout])

/-- Settles O30: each bounce leaves the machine in `Off` as it found it but for `on_start`. -/
theorem rejectedBouncesNeverConfirm : Obligations.RejectedBouncesNeverConfirm := by
  intro xs s hfsm h
  obtain ⟨t, ht, hbutton⟩ := execAll_pollsOf_button (xs.flatMap bouncePolls) s
  exact ⟨t, ht, hbutton ▸ bounces_keep hfsm h⟩

/-- T3 and T5, the two ways into `Off`, need a de-asserted sample. -/
theorem pollButton_asserted_ne_off {b : Button} (now : Word) (h : b.fsm ≠ .off) :
    (pollButton true now b).fsm ≠ .off := by
  obtain ⟨-, heq⟩ | ⟨-, heq⟩ | ⟨⟨-, hraw, -⟩, -⟩ | ⟨-, heq⟩ | ⟨⟨-, hraw, -⟩, -⟩ | ⟨-, heq⟩ | ⟨-, heq⟩ :=
    pollButton_cases true now b
  case inr.inr.inl => cases hraw
  case inr.inr.inr.inr.inl => cases hraw
  all_goals simp [heq, h]

theorem pollButtons_held_ne_off {ws : List Word} {b : Button} (h : b.fsm ≠ .off) :
    (pollButtons (held ws) b).fsm ≠ .off := by
  induction ws generalizing b with
  | nil => exact h
  | cons w ws ih => exact ih (pollButton_asserted_ne_off w h)

/-- Settles O31: no asserted poll enters `Off`. -/
theorem assertedSamplesNeverReject : Obligations.AssertedSamplesNeverReject := by
  intro ws s h
  obtain ⟨t, ht, hbutton⟩ := execAll_pollsOf_button (held ws) s
  exact ⟨t, ht, hbutton ▸ pollButtons_held_ne_off h⟩

theorem countPolls_cons (test : Button → Bool → Word → Bool) (p : Bool × Word) (ps : List (Bool × Word))
    (b : Button) :
    countPolls test (p :: ps) b = (test b p.1 p.2).toNat + countPolls test ps (pollButton p.1 p.2 b) := by
  cases h : test b p.1 p.2 <;> simp [countPolls, h]

theorem countPolls_congr {test test' : Button → Bool → Word → Bool}
    (htest : ∀ b raw now, coupled b = true → test b raw now = test' b raw now) (ps : List (Bool × Word))
    {b : Button} (hb : coupled b = true) : countPolls test ps b = countPolls test' ps b := by
  induction ps generalizing b with
  | nil => rfl
  | cons p rest ih => rw [countPolls_cons, countPolls_cons, htest b _ _ hb, ih (coupled_pollButton _ _ hb)]

theorem toNat_xor (x y : Bool) : (x ^^ y).toNat = (x.toNat + y.toNat) % 2 := by
  cases x <;> cases y <;> rfl

theorem toggle_pollButtons (ps : List (Bool × Word)) (b : Button) :
    (pollButtons ps b).toggle.toNat = (b.toggle.toNat + countPolls activates ps b) % 2 := by
  induction ps generalizing b with
  | nil => exact (Nat.mod_eq_of_lt (Bool.toNat_lt b.toggle)).symm
  | cons p rest ih =>
      rw [pollButtons_cons, ih, pollButton_toggle, toNat_xor, countPolls_cons]
      omega

/-- One poll's share of the balance of activations and deactivations. -/
theorem state_pollButton_balance {b : Button} (raw : Bool) (now : Word) (hb : coupled b = true) :
    (pollButton raw now b).state.toNat + (deactivates b raw now).toNat
      = b.state.toNat + (activates b raw now).toNat := by
  obtain ⟨ha, hd, hs, hs'⟩ | ⟨ha, hd, hs, hs'⟩ | ⟨ha, hd, hs'⟩ := pollButton_state_cases raw now hb <;> simp [*]

/-- The activations lead the deactivations by what `state` has gained. -/
theorem state_pollButtons_balance (ps : List (Bool × Word)) {b : Button} (hb : coupled b = true) :
    (pollButtons ps b).state.toNat + countPolls deactivates ps b
      = b.state.toNat + countPolls activates ps b := by
  induction ps generalizing b with
  | nil => rfl
  | cons p rest ih =>
      have hfirst := state_pollButton_balance p.1 p.2 hb
      have hrest := ih (coupled_pollButton p.1 p.2 hb)
      rw [pollButtons_cons, countPolls_cons, countPolls_cons]
      omega

/-- Settles O26: each poll flips `toggle` by T2 only, shows an edge by T2 and T5 only, and moves `state` by them only. -/
theorem toggleIsTheParityOfActivations : Obligations.ToggleIsTheParityOfActivations := by
  intro ps s hreset
  have hcoupled : coupled s.button = true := by rw [hreset]; exact coupled_atReset _ _
  have hstate : s.button.state = false := by rw [hreset]; rfl
  have htoggle : s.button.toggle = false := by rw [hreset]; rfl
  obtain ⟨t, ht, hbutton⟩ := execAll_pollsOf_button ps s
  have hbalance := state_pollButtons_balance ps hcoupled
  have hbound := Bool.toNat_le (pollButtons ps s.button).state
  rw [hstate, Bool.toNat_false] at hbalance
  refine ⟨t, ht, ?parity, countPolls_congr (fun _ => risesAfter_eq_activates) ps hcoupled,
    countPolls_congr (fun _ => fallsAfter_eq_deactivates) ps hcoupled, by omega, by omega⟩
  rw [hbutton, toggle_pollButtons, htoggle, Bool.toNat_false, Nat.zero_add]

end Sys2Proof.Machine
end

section
/-! The bytes of each encoder operation, written out (42_protocol_encoder.md R151 to R155). -/

namespace Sys2Proof.Machine

theorem bendLow_bendValue (v : Half) : bendLow (bendValue v) = BitVec.ofNat 8 (min v.toNat 16383 % 128) := by
  apply BitVec.eq_of_toNat_eq
  rw [bendLow_toNat, bendValue_toNat, BitVec.toNat_ofNat]
  omega

theorem bendHigh_bendValue (v : Half) : bendHigh (bendValue v) = BitVec.ofNat 8 (min v.toNat 16383 / 128) := by
  apply BitVec.eq_of_toNat_eq
  rw [bendHigh_toNat, bendValue_toNat, BitVec.toNat_ofNat]
  omega

/-- What an operation of format M3 (30_encoding.md R70) does, by its base code. -/
theorem exec_messageM3 {i : Instr} {base c p v : Byte} (s : State) (hi : isEncoderOp i = true)
    (hm : messageOf i = messageM3 base c p v) (hbase : base ∈ [0x80, 0x90, 0xB0, 0xD0, 0xE0]) :
    exec i s = .next { s with sinkTrace := s.sinkTrace ++
      [.write (BitVec.ofNat 8 (base.toNat + (min (max c.toNat 1) 16 - 1))),
        .write (BitVec.ofNat 8 (min p.toNat 127)), .write (BitVec.ofNat 8 (min v.toNat 127)), .flush] } := by
  rw [exec_encoder_next s hi, hm, messageM3, statusByte_eq base c hbase, dataByte_eq, dataByte_eq]
  rfl

/-- Settles O33: the three operations send a message of format M3 and differ in its base code. -/
theorem threeByteMessages : Obligations.ThreeByteMessages := by
  rintro s c p v n rfl
  exact ⟨exec_messageM3 s rfl rfl (base := baseActivate) (by decide),
    exec_messageM3 s rfl rfl (base := baseDeactivate) (by decide),
    exec_messageM3 s rfl rfl (base := baseParamChange) (by decide)⟩

/-- Settles O34: the message has format M2. -/
theorem pressureMessage : Obligations.PressureMessage := by
  intro s c v
  rw [exec_encoder_next s rfl, messageOf, messageM2, statusByte_eq basePressure c (by decide), dataByte_eq]
  rfl

/-- Settles O35: the message has format MB, and the halves of the clamped value are its remainder and its quotient. -/
theorem bendMessage : Obligations.BendMessage := by
  intro s c v
  rw [exec_encoder_next s rfl, messageOf, messageMB, statusByte_eq baseBend c (by decide), bendLow_bendValue,
    bendHigh_bendValue]
  rfl

end Sys2Proof.Machine
end

section
/-! The decoder of messages (30_encoding.md R70, R71, R83, R84): which bytes it accepts, and what it reads from them. -/

namespace Sys2Proof.Machine

theorem highNibble_toNat (b : Byte) : (highNibble b).toNat = b.toNat / 16 := by
  have hlt := b.isLt
  rw [highNibble, BitVec.extractLsb'_toNat, Nat.shiftRight_eq_div_pow]
  omega

theorem lowNibble_toNat (b : Byte) : (lowNibble b).toNat = b.toNat % 16 := by
  rw [lowNibble, BitVec.extractLsb'_toNat, Nat.shiftRight_zero]

theorem byte_eq_of_nibbles {a b : Byte} (hhigh : highNibble a = highNibble b) (hlow : lowNibble a = lowNibble b) :
    a = b := by
  apply BitVec.eq_of_toNat_eq
  have h := congrArg BitVec.toNat hhigh
  have l := congrArg BitVec.toNat hlow
  rw [highNibble_toNat, highNibble_toNat] at h
  rw [lowNibble_toNat, lowNibble_toNat] at l
  omega

/-- The kinds of three-byte messages, by the high nibble of the status byte (R83). -/
def HeadsThreeBytes (st : Byte) : Prop :=
  highNibble st = 0x8 ∨ highNibble st = 0x9 ∨ highNibble st = 0xB ∨ highNibble st = 0xE

theorem msb_of_highNibble {b : Byte} (h : 8 ≤ (highNibble b).toNat) : b.msb = true := by
  rw [highNibble_toNat] at h
  rw [BitVec.msb_eq_true_iff_two_mul_ge]
  omega

/-- R83, R84 of a list of bytes: its two shapes. -/
theorem messageOk_iff (bytes : List Byte) : messageOk bytes = true ↔
    (∃ st d, bytes = [st, d] ∧ highNibble st = 0xD ∧ d.msb = false) ∨
    (∃ st d1 d2, bytes = [st, d1, d2] ∧ HeadsThreeBytes st ∧ d1.msb = false ∧ d2.msb = false) := by
  rcases bytes with _ | ⟨st, _ | ⟨d1, _ | ⟨d2, _ | ⟨d3, rest⟩⟩⟩⟩ <;>
    simp [messageOk, HeadsThreeBytes, and_assoc, or_assoc]

theorem dataLength_eq_one_iff (st : Byte) : dataLength st = some 1 ↔ highNibble st = 0xD := by
  unfold dataLength
  split <;> simp_all [BitVec.toNat_eq]

theorem dataLength_eq_two_iff (st : Byte) : dataLength st = some 2 ↔ HeadsThreeBytes st := by
  unfold dataLength
  split <;> simp_all [HeadsThreeBytes, BitVec.toNat_eq]

theorem decodeMessage_pressure {st d : Byte} (h : highNibble st = 0xD) (hd : d.msb = false) :
    decodeMessage [st, d] = .ok (.pressure (channelOf st) d) := by
  have hst : st.msb = true := msb_of_highNibble (by rw [h]; decide)
  simp [decodeMessage, hst, (dataLength_eq_one_iff st).2 h, messageOfData, hd]

theorem decodeMessage_three {st d1 d2 : Byte} (h : HeadsThreeBytes st) (hd1 : d1.msb = false) (hd2 : d2.msb = false) :
    decodeMessage [st, d1, d2] = messageOfTwo st d1 d2 := by
  have hst : st.msb = true := by
    apply msb_of_highNibble
    obtain h | h | h | h := h <;> rw [h] <;> decide
  simp [decodeMessage, hst, (dataLength_eq_two_iff st).2 h, messageOfData, hd1, hd2]

theorem decodeMessage_ok {bytes : List Byte} {i : Instr} (h : decodeMessage bytes = .ok i) :
    ∃ st data n, bytes = st :: data ∧ dataLength st = some n ∧ messageOfData st n data = .ok i := by
  unfold decodeMessage at h
  split at h
  case h_1 => cases h
  case h_2 st data =>
    split at h
    · split at h
      · cases h
      next n hn => exact ⟨st, data, n, rfl, hn, h⟩
    · cases h

theorem messageOfData_ok {st : Byte} {n : Nat} {data : List Byte} {i : Instr} (h : messageOfData st n data = .ok i) :
    (n = 1 ∧ ∃ d, data = [d] ∧ d.msb = false) ∨
      (n = 2 ∧ ∃ d1 d2, data = [d1, d2] ∧ d1.msb = false ∧ d2.msb = false) := by
  unfold messageOfData at h
  split at h
  case h_1 d =>
    split at h
    · cases h
    next hd => exact .inl ⟨rfl, d, rfl, eq_false_of_ne_true hd⟩
  case h_2 d1 d2 =>
    split at h
    · cases h
    next hd1 =>
      split at h
      · cases h
      next hd2 => exact .inr ⟨rfl, d1, d2, rfl, eq_false_of_ne_true hd1, eq_false_of_ne_true hd2⟩
  case h_3 => cases h

/-- What decodes is well formed. -/
theorem messageOk_of_decodeMessage {bytes : List Byte} {i : Instr} (h : decodeMessage bytes = .ok i) :
    messageOk bytes = true := by
  obtain ⟨st, data, n, rfl, hn, hdata⟩ := decodeMessage_ok h
  rw [messageOk_iff]
  obtain ⟨rfl, d, rfl, hd⟩ | ⟨rfl, d1, d2, rfl, hd1, hd2⟩ := messageOfData_ok hdata
  · exact .inl ⟨st, d, rfl, (dataLength_eq_one_iff st).1 hn, hd⟩
  · exact .inr ⟨st, d1, d2, rfl, (dataLength_eq_two_iff st).1 hn, hd1, hd2⟩

end Sys2Proof.Machine
end

section
/-! The round trip of the messages (42_protocol_encoder.md R156): the message of an operation decodes to it with its
inputs clamped, and every well-formed message is that of an operation with its inputs in range. -/

namespace Sys2Proof.Machine

theorem dataByte_eq_inSeven (v : Byte) : dataByte v = clampInputs.inSeven v := dataByte_eq v

theorem channelOf_statusByte {base : Byte} (c : Byte) (h : base ∈ [0x80, 0x90, 0xB0, 0xD0, 0xE0]) :
    channelOf (statusByte base c) = clampInputs.inChannel c :=
  (statusByte_fields base c h).2.1

theorem joinBend_bendValue (v : Half) :
    joinBend (bendLow (bendValue v)) (bendHigh (bendValue v)) = BitVec.ofNat 16 (min v.toNat 16383) := by
  apply BitVec.eq_of_toNat_eq
  rw [joinBend_bendLow_bendHigh, bendValue_toNat, BitVec.toNat_ofNat]
  omega

/-- The round trip of format M3, for a constructor `op` that is the decoder's arm for the kind of `base`. -/
theorem decodeMessage_messageM3 {base : Byte} {op : Byte → Byte → Byte → Instr} (c p v : Byte)
    (hbase : base ∈ [0x80, 0x90, 0xB0, 0xD0, 0xE0]) (hthree : HeadsThreeBytes base)
    (harm : ∀ st d1 d2, highNibble st = highNibble base → messageOfTwo st d1 d2 = .ok (op (channelOf st) d1 d2)) :
    decodeMessage (messageM3 base c p v)
      = .ok (op (clampInputs.inChannel c) (clampInputs.inSeven p) (clampInputs.inSeven v)) := by
  have hhigh := highNibble_statusByte c hbase
  have hst : HeadsThreeBytes (statusByte base c) := by rwa [HeadsThreeBytes, hhigh]
  rw [messageM3, decodeMessage_three hst (dataByte_msb p) (dataByte_msb v), harm _ _ _ hhigh,
    channelOf_statusByte c hbase, dataByte_eq_inSeven, dataByte_eq_inSeven]

theorem messageOfTwo_deactivate {st : Byte} (d1 d2 : Byte) (h : highNibble st = 0x8) :
    messageOfTwo st d1 d2 = .ok (.deactivate (channelOf st) d1 d2) := by
  simp [messageOfTwo, h]

theorem messageOfTwo_activate {st : Byte} (d1 d2 : Byte) (h : highNibble st = 0x9) :
    messageOfTwo st d1 d2 = .ok (.activate (channelOf st) d1 d2) := by
  simp [messageOfTwo, h]

theorem messageOfTwo_paramChange {st : Byte} (d1 d2 : Byte) (h : highNibble st = 0xB) :
    messageOfTwo st d1 d2 = .ok (.paramChange (channelOf st) d1 d2) := by
  simp [messageOfTwo, h]

theorem messageOfTwo_bend {st : Byte} (d1 d2 : Byte) (h : highNibble st = 0xE) :
    messageOfTwo st d1 d2 = .ok (.bend (channelOf st) (joinBend d1 d2)) := by
  simp [messageOfTwo, h]

/-- The message of an encoder operation gives back the operation with its inputs clamped. -/
theorem decodeMessage_messageOf {i : Instr} (h : isEncoderOp i = true) :
    decodeMessage (messageOf i) = .ok (clampInputs i) := by
  cases i with
  | deactivate c p v =>
      exact decodeMessage_messageM3 c p v (by decide) (.inl rfl) fun _ _ _ => messageOfTwo_deactivate _ _
  | activate c p v =>
      exact decodeMessage_messageM3 c p v (by decide) (.inr (.inl rfl)) fun _ _ _ => messageOfTwo_activate _ _
  | paramChange c p v =>
      exact decodeMessage_messageM3 c p v (by decide) (.inr (.inr (.inl rfl))) fun _ _ _ =>
        messageOfTwo_paramChange _ _
  | pressure c v =>
      have hst : highNibble (statusByte basePressure c) = 0xD := highNibble_statusByte c (by decide)
      rw [messageOf, messageM2, decodeMessage_pressure hst (dataByte_msb v), channelOf_statusByte c (by decide),
        dataByte_eq_inSeven, clampInputs]
  | bend c v =>
      have hst : highNibble (statusByte baseBend c) = 0xE := highNibble_statusByte c (by decide)
      rw [messageOf, messageMB, decodeMessage_three (.inr (.inr (.inr hst))) (bendLow_msb _) (bendHigh_msb _),
        messageOfTwo_bend _ _ hst, channelOf_statusByte c (by decide), joinBend_bendValue, clampInputs]
  | _ => cases h

theorem lt_of_msb_false {b : Byte} (h : b.msb = false) : b.toNat < 128 := by
  rw [BitVec.msb_eq_false_iff_two_mul_lt] at h
  omega

theorem inSeven_of_msb_false {d : Byte} (h : d.msb = false) : clampInputs.inSeven d = d := by
  have hlt := lt_of_msb_false h
  apply BitVec.eq_of_toNat_eq
  rw [clampInputs.inSeven, BitVec.toNat_ofNat]
  omega

theorem dataByte_of_msb_false {d : Byte} (h : d.msb = false) : dataByte d = d := by
  rw [dataByte_eq_inSeven, inSeven_of_msb_false h]

theorem inChannel_channelOf (st : Byte) : clampInputs.inChannel (channelOf st) = channelOf st := by
  have hlt := (lowNibble st).isLt
  apply BitVec.eq_of_toNat_eq
  rw [clampInputs.inChannel, BitVec.toNat_ofNat, channelOf_toNat]
  omega

/-- A status byte is that of its kind and its channel. -/
theorem statusByte_channelOf {base st : Byte} (hbase : base ∈ [0x80, 0x90, 0xB0, 0xD0, 0xE0])
    (h : highNibble st = highNibble base) : statusByte base (channelOf st) = st := by
  refine byte_eq_of_nibbles (by rw [highNibble_statusByte _ hbase, h]) ?low
  have hlt := (lowNibble st).isLt
  apply BitVec.eq_of_toNat_eq
  rw [lowNibble_statusByte _ hbase, channelOf_toNat]
  omega

theorem messageM3_channelOf {base st d1 d2 : Byte} (hbase : base ∈ [0x80, 0x90, 0xB0, 0xD0, 0xE0])
    (h : highNibble st = highNibble base) (hd1 : d1.msb = false) (hd2 : d2.msb = false) :
    messageM3 base (channelOf st) d1 d2 = [st, d1, d2] := by
  rw [messageM3, statusByte_channelOf hbase h, dataByte_of_msb_false hd1, dataByte_of_msb_false hd2]

section Bend
variable {lo hi : Byte}

theorem joinBend_le (hlo : lo.msb = false) (hhi : hi.msb = false) : (joinBend lo hi).toNat ≤ 16383 := by
  have := lt_of_msb_false hlo
  have := lt_of_msb_false hhi
  rw [joinBend_toNat lo hi (lt_of_msb_false hlo)]
  omega

theorem bendLow_joinBend (hlo : lo.msb = false) (hhi : hi.msb = false) :
    bendLow (bendValue (joinBend lo hi)) = lo := by
  have hlt := lt_of_msb_false hlo
  apply BitVec.eq_of_toNat_eq
  rw [bendLow_toNat, bendValue_toNat, min_eq_left (joinBend_le hlo hhi), joinBend_toNat lo hi hlt]
  omega

theorem bendHigh_joinBend (hlo : lo.msb = false) (hhi : hi.msb = false) :
    bendHigh (bendValue (joinBend lo hi)) = hi := by
  have hlt := lt_of_msb_false hlo
  apply BitVec.eq_of_toNat_eq
  rw [bendHigh_toNat, bendValue_toNat, min_eq_left (joinBend_le hlo hhi), joinBend_toNat lo hi hlt]
  omega

theorem clamp_joinBend (hlo : lo.msb = false) (hhi : hi.msb = false) :
    BitVec.ofNat 16 (min (joinBend lo hi).toNat 16383) = joinBend lo hi := by
  rw [min_eq_left (joinBend_le hlo hhi), BitVec.ofNat_toNat, BitVec.setWidth_eq]

end Bend

/-- Every well-formed message is that of an operation with its inputs in range. -/
theorem exists_messageOf {bytes : List Byte} (h : messageOk bytes = true) :
    ∃ i, isEncoderOp i = true ∧ clampInputs i = i ∧ messageOf i = bytes := by
  obtain ⟨st, d, rfl, hst, hd⟩ | ⟨st, d1, d2, rfl, hst, hd1, hd2⟩ := (messageOk_iff bytes).1 h
  · refine ⟨.pressure (channelOf st) d, rfl, ?_, ?_⟩
    · rw [clampInputs, inChannel_channelOf, inSeven_of_msb_false hd]
    · rw [messageOf, messageM2, statusByte_channelOf (by decide) hst, dataByte_of_msb_false hd]
  · have hc := inChannel_channelOf st
    have h1 := inSeven_of_msb_false hd1
    have h2 := inSeven_of_msb_false hd2
    obtain hst | hst | hst | hst := hst
    · exact ⟨.deactivate (channelOf st) d1 d2, rfl, by rw [clampInputs, hc, h1, h2],
        messageM3_channelOf (by decide) hst hd1 hd2⟩
    · exact ⟨.activate (channelOf st) d1 d2, rfl, by rw [clampInputs, hc, h1, h2],
        messageM3_channelOf (by decide) hst hd1 hd2⟩
    · exact ⟨.paramChange (channelOf st) d1 d2, rfl, by rw [clampInputs, hc, h1, h2],
        messageM3_channelOf (by decide) hst hd1 hd2⟩
    · refine ⟨.bend (channelOf st) (joinBend d1 d2), rfl, by rw [clampInputs, hc, clamp_joinBend hd1 hd2], ?_⟩
      rw [messageOf, messageMB, statusByte_channelOf (by decide) hst, bendLow_joinBend hd1 hd2,
        bendHigh_joinBend hd1 hd2]

/-- The decoder answers exactly with the operation in range whose message it is given. -/
theorem decodeMessage_ok_iff (bytes : List Byte) (i : Instr) :
    decodeMessage bytes = .ok i ↔ isEncoderOp i = true ∧ clampInputs i = i ∧ messageOf i = bytes := by
  constructor
  · intro h
    obtain ⟨j, hj, hrange, rfl⟩ := exists_messageOf (messageOk_of_decodeMessage h)
    rw [decodeMessage_messageOf hj, hrange] at h
    cases h
    exact ⟨hj, hrange, rfl⟩
  · rintro ⟨hi, hrange, rfl⟩
    rw [decodeMessage_messageOf hi, hrange]

theorem messageOk_iff_decodes (bytes : List Byte) : messageOk bytes = true ↔ ∃ i, decodeMessage bytes = .ok i := by
  refine ⟨fun h => ?_, fun ⟨i, hi⟩ => messageOk_of_decodeMessage hi⟩
  obtain ⟨i, hi⟩ := exists_messageOf h
  exact ⟨i, (decodeMessage_ok_iff bytes i).2 hi⟩

/-- Clamping the inputs beforehand leaves the message as it is: both operations are read from it. -/
theorem messageOf_clampInputs {i : Instr} (h : isEncoderOp i = true) : messageOf (clampInputs i) = messageOf i :=
  ((decodeMessage_ok_iff _ _).1 (decodeMessage_messageOf h)).2.2

theorem messageOf_eq_iff {i j : Instr} (hi : isEncoderOp i = true) (hj : isEncoderOp j = true) :
    messageOf i = messageOf j ↔ clampInputs i = clampInputs j := by
  constructor
  · intro h
    have hdecode := decodeMessage_messageOf hi
    rw [h, decodeMessage_messageOf hj] at hdecode
    exact (Except.ok.inj hdecode).symm
  · intro h
    rw [← messageOf_clampInputs hi, h, messageOf_clampInputs hj]

theorem framed_injective : Function.Injective framed := by
  intro m n h
  have hmap : m.map SinkEvent.write = n.map SinkEvent.write := List.append_cancel_right h
  exact List.map_injective_iff.2 (fun _ _ => SinkEvent.write.inj) hmap

/-- Two encoder operations have the same effect exactly if they send the same message. -/
theorem exec_encoder_eq_iff {i j : Instr} (s : State) (hi : isEncoderOp i = true) (hj : isEncoderOp j = true) :
    exec i s = exec j s ↔ messageOf i = messageOf j := by
  rw [exec_encoder_next s hi, exec_encoder_next s hj]
  constructor
  · intro h
    have htrace := congrArg State.sinkTrace (Host.Outcome.next.inj h)
    exact framed_injective (List.append_cancel_left htrace)
  · intro h
    rw [h]

/-- Settles O5: the bytes are the operation's message, which decodes to the clamped operation, so that the trace tells
two operations apart exactly by what the decoder reads. -/
theorem messagesDetermineTheClampedOperation : Obligations.MessagesDetermineTheClampedOperation := by
  refine ⟨fun i s hi => ⟨messageOf i, ?_⟩, fun i j s hi hj => ?_⟩
  · exact ⟨exec_encoder_next s hi, messageOk_messageOf hi, decodeMessage_messageOf hi⟩
  · rw [exec_encoder_eq_iff s hi hj, messageOf_eq_iff hi hj]

/-- Settles O6: what the decoder answers has the given bytes as its message. -/
theorem everyMessageIsSentByItsOperation : Obligations.EveryMessageIsSentByItsOperation := by
  refine fun bytes => ⟨messageOk_iff_decodes bytes, fun i h => ?_⟩
  obtain ⟨hi, hrange, rfl⟩ := (decodeMessage_ok_iff bytes i).1 h
  exact ⟨hi, hrange, fun s => exec_encoder_next s hi⟩

end Sys2Proof.Machine
end

section
/-! The Dispatcher's iteration (43_dispatcher_boundary.md): the state after its poll and its two gaps, and what the end
of the iteration adds to that (R180). -/

namespace Sys2Proof.Machine

/-- What R180's iteration does whatever the poll answers: `READ`, ticks, `POLL` with the value read, ticks. -/
def polledInGaps (sample : Sample) (before after : Nat) (s : State) : State :=
  ticks after (pollNow sample before s)

theorem dispatchIter_fault (before after : Nat) (s : State) :
    dispatchIter .fault before after s = respond (.iteration .fault) (polledInGaps .fault before after s) := rfl

theorem dispatchIter_ok (raw : Bool) (before after : Nat) (s : State) :
    dispatchIter (.ok raw) before after s
      = respond (.iteration .done) (emitEdge (polledInGaps (.ok raw) before after s)) := rfl

@[simp] theorem polledInGaps_button (sample : Sample) (before after : Nat) (s : State) :
    (polledInGaps sample before after s).button = (poll sample s.msCount s).button := by
  cases sample <;> simp [polledInGaps, ticks_eq, pollNow_eq, poll]

@[simp] theorem polledInGaps_dispatcher (sample : Sample) (before after : Nat) (s : State) :
    (polledInGaps sample before after s).dispatcher = s.dispatcher := by
  simp [polledInGaps, ticks_eq, pollNow_eq, poll_frame]

@[simp] theorem polledInGaps_sinkTrace (sample : Sample) (before after : Nat) (s : State) :
    (polledInGaps sample before after s).sinkTrace = s.sinkTrace := by
  simp [polledInGaps, ticks_eq, pollNow_eq, poll_frame]

theorem polledInGaps_fault (before after : Nat) (s : State) :
    polledInGaps .fault before after s = { s with
      msCount := s.msCount + BitVec.ofNat 32 (before + after)
      results := s.results ++ [.count s.msCount, .poll .fault] } := by
  simp [polledInGaps, ticks_eq, pollNow_eq, poll_fault, setCount, readCount, respond, counterRead,
    BitVec.ofNat_add, BitVec.add_assoc]

theorem execAll_replicate_tick (k : Nat) (s : State) : execAll (List.replicate k .tick) s = .next (ticks k s) := by
  induction k generalizing s with
  | zero => rfl
  | succ k ih => exact ih (tickOnce s)

/-- The operations of R180 up to the poll's answer, requested one by one. -/
theorem execAll_polledInGaps (sample : Sample) (before after : Nat) (s : State) :
    execAll (.read :: List.replicate before .tick ++ .poll sample s.msCount :: List.replicate after .tick) s
      = .next (polledInGaps sample before after s) := by
  have hgap : execAll (.read :: List.replicate before .tick) s = .next (ticks before (readCount s)) :=
    execAll_replicate_tick before (readCount s)
  rw [execAll_append _ _ _ _ hgap]
  exact execAll_replicate_tick after (pollNow sample before s)

theorem edge_iff (b : Button) : edge b = true ↔ b.state ≠ b.prevState := by
  simp [edge]

theorem edge_eq_false_iff (b : Button) : edge b = false ↔ b.state = b.prevState := by
  simp [edge]

theorem emitEdge_of_edge {s : State} (h : edge s.button = true) :
    emitEdge s = mirrorIndicator
      (sendMessage (messageM3 baseActivate s.dispatcher.channel s.dispatcher.param (edgeValue s)) s) := by
  simp [emitEdge, h]

theorem emitEdge_of_not_edge {s : State} (h : edge s.button = false) : emitEdge s = s := by
  simp [emitEdge, h]

theorem exec_activate_edgeValue (s : State) :
    exec (.activate s.dispatcher.channel s.dispatcher.param (if s.button.state then s.dispatcher.valueOn else 0)) s
      = .next (sendMessage (messageM3 baseActivate s.dispatcher.channel s.dispatcher.param (edgeValue s)) s) := rfl

end Sys2Proof.Machine
end

section
/-! The indicator (43_dispatcher_boundary.md R182): each iteration keeps it equal to `state`, and so does every run without
requests. -/

namespace Sys2Proof.Machine

/-- A readable poll stores the `state` it found, so there is an edge exactly if it changed `state`. -/
theorem edge_pollButton (raw : Bool) (now : Word) (b : Button) :
    edge (pollButton raw now b) = ((pollButton raw now b).state != b.state) := by
  rw [edge, pollButton_prevState]

theorem emitEdge_indicator (s : State) :
    (emitEdge s).dispatcher.indicator = if edge s.button then s.button.state else s.dispatcher.indicator := by
  unfold emitEdge
  split <;> simp [sendMessage_eq]

/-- R182: the poll changes `state` only with an edge, and the iteration then sets the indicator. -/
theorem dispatchIter_keeps_indicator {s : State} (sample : Sample) (before after : Nat)
    (h : s.dispatcher.indicator = s.button.state) :
    (dispatchIter sample before after s).dispatcher.indicator = (dispatchIter sample before after s).button.state := by
  cases sample with
  | fault => simpa [dispatchIter_fault, poll_fault] using h
  | ok raw =>
      simp only [dispatchIter_ok, respond_dispatcher, respond_button, emitEdge_indicator, emitEdge_frame,
        polledInGaps_button, polledInGaps_dispatcher, poll_ok, edge_pollButton, h]
      split
      · rfl
      · next hsame =>
          rw [bne_iff_ne, not_not] at hsame
          exact hsame.symm

/-- The loop runs iterations only, and the indicator equals `state`. -/
structure LoopMirrors (s : State) : Prop where
  noRequest : ∀ e ∈ s.inputs, isRequest e = false
  indicator : s.dispatcher.indicator = s.button.state

/-- The operation of an event that is no request is `TICK`, `RESET` or an iteration, and each completes. -/
theorem exec_of_not_request_keeps_indicator {e : Event} (he : isRequest e = false) {s : State}
    (h : s.dispatcher.indicator = s.button.state) :
    ∃ i t, decode e = .ok i ∧ exec i s = .next t ∧ t.dispatcher.indicator = t.button.state := by
  cases e with
  | tick => exact ⟨.tick, _, rfl, exec_tick s, h⟩
  | rst => exact ⟨.reset, _, rfl, exec_reset s, rfl⟩
  | iterate sample before after =>
      exact ⟨_, _, rfl, exec_dispatchIter sample before after s, dispatchIter_keeps_indicator sample before after h⟩
  | request r => cases he

theorem step_keeps_loopMirrors {s : State} (hs : LoopMirrors s) : ∃ t, step s = .next t ∧ LoopMirrors t := by
  obtain ⟨hinputs, hindicator⟩ := hs
  cases hin : s.inputs with
  | nil => exact ⟨s, step_of_inputs_nil hin, hinputs, hindicator⟩
  | cons e rest =>
      rw [hin, List.forall_mem_cons] at hinputs
      obtain ⟨he, hrest⟩ := hinputs
      obtain ⟨i, t, hdecode, hexec, ht⟩ :=
        exec_of_not_request_keeps_indicator he (s := { s with inputs := rest }) hindicator
      refine ⟨t, by rw [step_of_decode_ok hin hdecode, hexec], ?_, ht⟩
      rw [inputs_after hexec]
      exact hrest

/-- A property under which a step goes on and which it keeps: under it every run goes on and keeps it. -/
theorem run_goes_on {P : State → Prop} (hstep : ∀ s, P s → ∃ t, step s = .next t ∧ P t) (n : Nat) {s : State}
    (hs : P s) : ∃ t, core.run n s = .next t ∧ P t := by
  induction n generalizing s with
  | zero => exact ⟨s, rfl, hs⟩
  | succ n ih =>
      obtain ⟨u, hu, hPu⟩ := hstep s hs
      have hrun : core.run (n + 1) s = core.run n u := by simp [Host.Core.run, core, hu]
      rw [hrun]
      exact ih hPu

/-- Settles O43: every step goes on and keeps the indicator equal to `state` and the inputs free of requests. -/
theorem indicatorMirrorsState : Obligations.IndicatorMirrorsState := by
  intro n s hinputs hindicator
  obtain ⟨t, hrun, ht⟩ := run_goes_on (fun _ => step_keeps_loopMirrors) n ⟨hinputs, hindicator⟩
  exact ⟨t, hrun, ht.indicator⟩

end Sys2Proof.Machine
end

section
/-! The claims about one iteration (43_dispatcher_boundary.md R180, R181, R184), and what `RESET` does to the observations. -/

namespace Sys2Proof.Machine

/-- Settles O41: the operations up to the gap's last tick reach `polledInGaps`; what the iteration adds there depends on
the sample and on the edge. -/
theorem iterationIsItsExpansion : Obligations.IterationIsItsExpansion := by
  intro sample before after s
  refine ⟨_, _, _, exec_dispatchIter sample before after s, execAll_polledInGaps sample before after s,
    exec_activate_edgeValue _, ?fault, ?noEdge, ?edge⟩
  case fault =>
    rintro rfl
    rfl
  case noEdge =>
    intro hsample hstate
    cases sample with
    | fault => exact absurd rfl hsample
    | ok raw =>
        rw [dispatchIter_ok, emitEdge_of_not_edge ((edge_eq_false_iff _).mpr hstate)]
        rfl
  case edge =>
    intro hsample hstate
    cases sample with
    | fault => exact absurd rfl hsample
    | ok raw =>
        rw [dispatchIter_ok, emitEdge_of_edge ((edge_iff _).mpr hstate)]
        rfl

/-- R181: the message of the edge that stands after the iteration, if there is one. -/
theorem dispatchIter_ok_sinkTrace (raw : Bool) (before after : Nat) (s : State) :
    (dispatchIter (.ok raw) before after s).sinkTrace =
      if edge (dispatchIter (.ok raw) before after s).button then
        s.sinkTrace ++ framed (messageM3 baseActivate s.dispatcher.channel s.dispatcher.param
          (if (dispatchIter (.ok raw) before after s).button.state then s.dispatcher.valueOn else 0))
      else s.sinkTrace := by
  simp [dispatchIter_ok, emitEdge_sinkTrace, emitEdge_frame, edgeValue]

/-- The sink events of an `ACTIVATE` whose value is in range. -/
theorem framed_activate (c p : Byte) {v : Byte} (hv : v.toNat ≤ 127) :
    framed (messageM3 baseActivate c p v) =
      [.write (BitVec.ofNat 8 (0x90 + (min (max c.toNat 1) 16 - 1))), .write (BitVec.ofNat 8 (min p.toNat 127)),
        .write v, .flush] := by
  have hvalue : dataByte v = v := dataByte_of_msb_false (msb_false_of_lt (by omega))
  rw [messageM3, statusByte_eq baseActivate c (by decide), dataByte_eq p, hvalue]
  rfl

/-- Settles O42: the edge decides whether there is a message, and `state` after it decides the value. -/
theorem oneMessagePerEdge : Obligations.OneMessagePerEdge := by
  intro raw before after s t hlegal h
  cases h
  have htrace := dispatchIter_ok_sinkTrace raw before after s
  obtain ⟨-, hvalue⟩ := of_decide_eq_true hlegal
  refine ⟨fun hedge => ?none, fun hrising => ?rising, fun hfalling => ?falling⟩
  case none => rw [htrace, hedge]; rfl
  case rising =>
    obtain ⟨hedge, hstate⟩ := Bool.and_eq_true_iff.mp hrising
    rw [htrace, hedge, hstate, ← framed_activate _ _ hvalue]
    rfl
  case falling =>
    obtain ⟨hedge, hstate⟩ := Bool.and_eq_true_iff.mp hfalling
    rw [htrace, hedge, (Bool.not_eq_true' _).mp hstate, ← framed_activate _ _ (by decide)]
    rfl

/-- Settles O44: the iteration answers `Fault` in the state after its gaps, where only the counter and the results
differ. -/
theorem faultedIterationEmitsNothing : Obligations.FaultedIterationEmitsNothing := by
  intro before after s
  refine ⟨_, exec_dispatchIter .fault before after s, ?_⟩
  rw [dispatchIter_fault, polledInGaps_fault]
  simp [respond]

/-- Settles O46: the results, the inputs and the Dispatcher of a reset block. -/
theorem resetStartsTheObservationsOver : Obligations.ResetStartsTheObservationsOver :=
  fun s => ⟨resetBlock s, exec_reset s, resetBlock_results s, resetBlock_inputs s, resetBlock_dispatcher s⟩

end Sys2Proof.Machine
end

section
/-! What an operation returns, one list per operation, and which polls stand in it (20_memory.md R51, 60_exceptions.md
R190, R192). -/

namespace Sys2Proof.Machine

/-- The results an operation returns, oldest first (00_scope.md R14); `RESET` returns none. -/
def returned (i : Instr) (s : State) : List Response :=
  match i with
  | .read => [.count s.msCount]
  | .poll sample _ => [.poll (resultOfSample sample)]
  | .elapsed t t0 => [.elapsed (elapsed t t0)]
  | .dispatchIter sample _ _ =>
      [.count s.msCount, .poll (resultOfSample sample), .iteration (resultOfSample sample)]
  | .tick => []
  | .reset => []
  | .nop => []
  | .deactivate _ _ _ => []
  | .activate _ _ _ => []
  | .paramChange _ _ _ => []
  | .pressure _ _ => []
  | .bend _ _ => []

/-- Every operation but `RESET` appends what it returns to the results. -/
theorem results_append_returned {i : Instr} {s t : State} (hi : i ≠ .reset) (h : exec i s = .next t) :
    t.results = s.results ++ returned i s := by
  cases i with
  | reset => exact absurd rfl hi
  | read => cases h; rfl
  | elapsed now start => cases h; rfl
  | poll sample now => cases h; exact poll_results sample now s
  | dispatchIter sample before after => cases h; simp [dispatchIter_frame, returned]
  | tick => rw [results_after (.inr (.inr rfl)) h]; simp [returned]
  | nop => rw [results_after (.inr (.inl rfl)) h]; simp [returned]
  | _ => rw [results_after (.inl rfl) h]; simp [returned]

theorem poll_fault_mem_returned_iff (i : Instr) (s : State) :
    .poll .fault ∈ returned i s ↔ meetsFault i = true := by
  cases i with
  | poll sample now => cases sample <;> simp [returned, resultOfSample, meetsFault]
  | dispatchIter sample before after => cases sample <;> simp [returned, resultOfSample, meetsFault]
  | _ => simp [returned, meetsFault]

/-- The latest poll among the results of one operation: `Fault` for a faulted sample, `Done` for a readable one. -/
theorem findSome?_returned (i : Instr) (s : State) :
    (returned i s).reverse.findSome? pollOfResponse
      = if meetsFault i then some .fault else (polled i s).map fun _ => .done := by
  cases i with
  | poll sample now => cases sample <;> rfl
  | dispatchIter sample before after => cases sample <;> rfl
  | _ => rfl

theorem ne_reset_of_meetsFault {i : Instr} (h : meetsFault i = true) : i ≠ .reset := by
  rintro rfl
  cases h

theorem ne_reset_of_polled {i : Instr} {s : State} {p : Bool × Word} (h : polled i s = some p) : i ≠ .reset := by
  rintro rfl
  cases h

theorem polled_of_meetsFault {i : Instr} (s : State) (h : meetsFault i = true) : polled i s = none := by
  cases i with
  | poll sample now => cases sample with
    | fault => rfl
    | ok raw => cases h
  | dispatchIter sample before after => cases sample with
    | fault => rfl
    | ok raw => cases h
  | _ => rfl

/-- R192: the operation's own poll if it performs one, and otherwise what `poll_result` was. -/
theorem pollResult_after {i : Instr} {s t : State} (hi : i ≠ .reset) (h : exec i s = .next t) :
    pollResult t = (if meetsFault i then some .fault else (polled i s).map fun _ => .done).or (pollResult s) := by
  rw [pollResult, results_append_returned hi h, List.reverse_append, List.findSome?_append, findSome?_returned]
  rfl

end Sys2Proof.Machine
end

section
/-! The claims about the one fault (60_exceptions.md R190, R192, R198): who returns it, what stays, and what goes on. -/

namespace Sys2Proof.Machine

/-- Settles O19: the results of the operation hold a faulted poll exactly for a faulted sample, and such an operation
performs no poll of the button. -/
theorem onlyFaultedSamplesFault : Obligations.OnlyFaultedSamplesFault := by
  intro i s
  obtain ⟨t, ht⟩ := exec_next i s
  refine ⟨t, ht, fun hi => ?results, fun hfault => ?button⟩
  case results => exact ⟨returned i s, results_append_returned hi ht, poll_fault_mem_returned_iff i s⟩
  case button => rw [button_after (ne_reset_of_meetsFault hfault) ht, polled_of_meetsFault s hfault]

/-- Settles O21: the operation's own poll hides the earlier ones. -/
theorem pollResultIsTheLatestPolls : Obligations.PollResultIsTheLatestPolls := by
  intro i s
  obtain ⟨t, ht⟩ := exec_next i s
  refine ⟨t, ht, fun hfault => ?fault, fun ⟨p, hp⟩ => ?done, fun hi hfault hp => ?noPoll⟩
  case fault => simp [pollResult_after (ne_reset_of_meetsFault hfault) ht, hfault]
  case done =>
    have hfault : meetsFault i ≠ true := fun hf => by simp [polled_of_meetsFault s hf] at hp
    simp [pollResult_after (ne_reset_of_polled hp) ht, hfault, hp]
  case noPoll => simp [pollResult_after hi ht, hfault, hp]

/-- What each operation of a sequence keeps, the sequence keeps. -/
theorem execAll_keeps {P : State → Prop} {is : List Instr} {s t : State}
    (hexec : ∀ i ∈ is, ∀ u v, P u → exec i u = .next v → P v) (hs : P s) (h : execAll is s = .next t) : P t := by
  induction is generalizing s with
  | nil => cases h; exact hs
  | cons i rest ih =>
      obtain ⟨u, hu⟩ := exec_next i s
      simp only [execAll, hu] at h
      have hP : P u := hexec i List.mem_cons_self s u hs hu
      exact ih (fun j hj => hexec j (List.mem_cons_of_mem i hj)) hP h

/-- A `TICK` or a faulted `POLL`. -/
def TickOrFaultedPoll (i : Instr) : Prop := i = .tick ∨ ∃ now, i = .poll .fault now

theorem tickTotal_eq_count_tick {is : List Instr} (his : ∀ i ∈ is, TickOrFaultedPoll i) :
    tickTotal is = is.count .tick := by
  induction is with
  | nil => rfl
  | cons i rest ih =>
      obtain ⟨hi, hrest⟩ := List.forall_mem_cons.mp his
      rw [tickTotal_cons, ih hrest]
      obtain rfl | ⟨now, rfl⟩ := hi
      · rw [List.count_cons_self, tickCount, Nat.add_comm]
      · rw [List.count_cons_of_ne (by simp), tickCount, Nat.zero_add]

theorem exec_tickOrFaultedPoll_frame {i : Instr} {s t : State} (hi : TickOrFaultedPoll i)
    (h : exec i s = .next t) : t.button = s.button ∧ t.sinkTrace = s.sinkTrace := by
  obtain rfl | ⟨now, rfl⟩ := hi
  · cases h; exact ⟨rfl, rfl⟩
  · cases h; exact ⟨rfl, rfl⟩

/-- Settles O20: each operation keeps the button and the trace, and the counter advances by the ticks of the
sequence. -/
theorem timePassesWhilePollsFault : Obligations.TimePassesWhilePollsFault := by
  intro is s his
  obtain ⟨t, ht⟩ := execAll_next is s
  have hreset : .reset ∉ is := fun hmem => by simpa using his .reset hmem
  have hkept : t.button = s.button ∧ t.sinkTrace = s.sinkTrace := by
    refine execAll_keeps (P := fun u => u.button = s.button ∧ u.sinkTrace = s.sinkTrace)
      (fun i hi u v ⟨hbutton, htrace⟩ huv => ?_) ⟨rfl, rfl⟩ ht
    obtain ⟨hbutton', htrace'⟩ := exec_tickOrFaultedPoll_frame (his i hi) huv
    exact ⟨hbutton'.trans hbutton, htrace'.trans htrace⟩
  obtain ⟨hbutton, htrace⟩ := hkept
  exact ⟨t, ht, hbutton, htrace, by rw [count_after_all hreset ht, tickTotal_eq_count_tick his]⟩

end Sys2Proof.Machine
end

section
/-! One clock cycle (60_exceptions.md R196): what `rst` does, and the request followed by the tick. -/

namespace Sys2Proof.Machine

theorem cycle_of_rst {x : CycleInputs} (s : State) (hrst : x.rst = true) : cycle x s = exec .reset s := by
  rw [cycle, if_pos hrst, exec_reset]

theorem cycle_of_tick {x : CycleInputs} {i : Instr} {s t : State} (hrst : x.rst = false) (htick : x.tick = true)
    (hdecode : decodeRequest x.request = .ok i) (h : exec i s = .next t) : cycle x s = .next (tickOnce t) := by
  simp [cycle, hrst, hdecode, h, tickAfter, htick]

theorem decodeRequest_of_poll {r : Request} (h : r.opSel = 0x2) : decodeRequest r = .ok (.poll r.sample r.now) := by
  simp [decodeRequest, h]

theorem countOut_tickOnce (s : State) : countOut (tickOnce s) = countOut s := rfl

/-- Settles O54: the cycle of a `READ` or a `POLL` with a tick is the operation and then the increment. -/
theorem simultaneousEventsInOneCycle : Obligations.SimultaneousEventsInOneCycle := by
  refine fun x s => ⟨cycle_of_rst s, fun hrst htick hread => ?read, fun hrst htick hpoll => ?poll⟩
  case read =>
    have hcycle := cycle_of_tick hrst htick ((decodeRequest_eq_read_iff x.request).mpr hread) (exec_read s)
    refine ⟨_, hcycle, ?_, rfl⟩
    rw [countOut_tickOnce, countOut_readCount]
  case poll =>
    have hpolled := exec_poll x.request.sample x.request.now s
    exact ⟨_, _, cycle_of_tick hrst htick (decodeRequest_of_poll hpoll) hpolled, hpolled, rfl⟩

end Sys2Proof.Machine
end

section
/-! `RESET` and the construction of the instance (70_reset_and_hazards.md R210, R213, R214). -/

namespace Sys2Proof.Machine

/-- R210: the request port, the tick port and an iteration never ask for `RESET`. -/
theorem decode_eq_reset_iff (e : Event) : decode e = .ok .reset ↔ e = .rst := by
  constructor
  · intro h
    cases e with
    | rst => rfl
    | tick => cases h
    | iterate sample before after => cases h
    | request r => cases domainOf_decodeRequest h
  · rintro rfl; rfl

/-- Settles O45: the fields of a reset block, and the rst port as the one source of `RESET`. -/
theorem resetSetsAllRegisters : Obligations.ResetSetsAllRegisters :=
  ⟨fun s => ⟨resetBlock s, exec_reset s, resetBlock_msCount s, resetBlock_button s, resetBlock_sinkTrace s⟩,
    decode_eq_reset_iff⟩

theorem construct_of_lt {confirm timeout : Word} (h : timeout < confirm) :
    construct confirm timeout = .refused .thresholdsOutOfOrder := by
  have hdisordered : thresholdsOrdered confirm timeout = false := decide_eq_false (BitVec.not_le.mpr h)
  simp [construct, hdisordered]

theorem construct_of_le {confirm timeout : Word} (h : confirm ≤ timeout) :
    construct confirm timeout = .next { State.reset with button := Button.atReset confirm timeout } := by
  have hordered : thresholdsOrdered confirm timeout = true := decide_eq_true h
  rw [construct, if_pos hordered]

/-- R213: construction performs `RESET`, so `RESET` finds nothing left to change. -/
theorem resetBlock_constructed (confirm timeout : Word) :
    resetBlock { State.reset with button := Button.atReset confirm timeout }
      = { State.reset with button := Button.atReset confirm timeout } := rfl

/-- Settles O48: the check of construction splits the configurations, and the accepted ones give a state that is
already reset. -/
theorem constructionChecksTheThresholds : Obligations.ConstructionChecksTheThresholds := by
  refine fun confirm timeout => ⟨construct_of_lt, fun hordered => ?_⟩
  refine ⟨_, construct_of_le hordered, rfl, rfl, ?_⟩
  rw [exec_reset, resetBlock_constructed]

end Sys2Proof.Machine
end
